-- ==== Sys2Proof/Word.lean ====
section
/-! DEFINITION. The words of the part and the numbers of its like things. -/

namespace Sys2Proof

/-- One byte of the link. -/
abbrev Byte := BitVec 8

/-- A 16-bit word: a shot's tag, a notice number, a CRC. -/
abbrev Word16 := BitVec 16

/-- A value of the Time Base, in microseconds, wrapping (R1); also the tracker's cycle count (R4). -/
abbrev Time := BitVec 32

/-- An output O0 to O15. -/
abbrev Output := Fin 16

/-- An interlock set IS0 to IS7. -/
abbrev SetId := Fin 8

/-- A trip group TG0 to TG3. -/
abbrev GroupId := Fin 4

/-- A fault input F0 to F3. -/
abbrev InputId := Fin 4

/-- A slot of a cam table. -/
abbrev Slot := Fin 96

end Sys2Proof
end

