-- ==== Sys2Proof/Syntax.lean ====
section
/-! DEFINITION. The names the manual gives things (enumerations, order frames and their fields) and the commands:
one constructor of `Instr` per row of spec/opcode_table.json. -/

namespace Sys2Proof

/-- A pin level (R109, R22). -/
inductive Level
  | high
  | low
  deriving DecidableEq, Repr

/-- The controller mode (R129). -/
inductive Mode
  | idle
  | run
  | paused
  deriving DecidableEq, Repr

/-- The cause of a reset (R137). -/
inductive ResetCause
  | power
  | line
  | order
  deriving DecidableEq, Repr

/-- The baud code of the link (R142). -/
inductive Baud
  | b115200
  | b230400
  | b460800
  | b921600
  deriving DecidableEq, Repr

/-- What may raise demand on an output (R18). -/
inductive Source
  | unused
  | shot
  | cam
  | manual
  deriving DecidableEq, Repr

/-- Which pin level opens the valve (R18). -/
inductive Polarity
  | highActive
  | lowActive
  deriving DecidableEq, Repr

/-- How a trip group is released (R118). -/
inductive ReleaseMode
  | manual
  | auto
  deriving DecidableEq, Repr

/-- Whether a trip empties the members' shot queues (R118). -/
inductive QueuePolicy
  | purge
  | keep
  deriving DecidableEq, Repr

/-- What a further conflict does to a present record (R101). -/
inductive ConflictPolicy
  | keepFirst
  | keepLatest
  deriving DecidableEq, Repr

/-- Which cam table CAM_READ reads (R75). -/
inductive TableSel
  | active
  | shadow
  deriving DecidableEq, Repr

/-- The result codes of R178, in code order. -/
inductive Result
  | ok
  | unknownKind
  | badLength
  | badField
  | wrongMode
  | inboxFull
  | poolFull
  | queueFull
  | overlap
  | horizon
  | tooLate
  | tooLong
  | wrongSource
  | tableFull
  | noSuchSlot
  | commitPending
  | notPending
  | inUse
  | sourcesActive
  | inhibited
  | windowOverlap
  | notTripped
  | noAngle
  deriving DecidableEq, Repr

/-- An output profile (R18). -/
structure Profile where
  source : Source
  boost : Nat
  duty : Nat
  minOff : Nat
  maxOn : Nat
  iset : Option SetId
  groups : BitVec 4
  polarity : Polarity
  deriving DecidableEq, Repr

/-- A cam window (R68). -/
structure Window where
  output : Output
  onAngle : Nat
  offAngle : Nat
  divisor : Nat
  phase : Nat
  deriving DecidableEq, Repr

/-- The fields of one booked shot as the host sends them (R173); the Shot Scheduler checks them (R44). -/
structure ShotFields where
  output : Byte
  flags : Byte
  tag : Word16
  start : Time
  duration : Nat
  grace : Nat
  deriving DecidableEq, Repr

/-- A CRC-good order frame: SEQ, KIND and body. LEN and the two CRC bytes follow from these (R167, R168). -/
structure OrderFrame where
  seq : Byte
  kind : Byte
  body : List Byte
  deriving DecidableEq, Repr

/-- A byte arrival at the framer: a data byte, or one marked stop-bit error, its data discarded (R143). -/
inductive RxByte
  | data (b : Byte)
  | stopError
  deriving DecidableEq, Repr

/-- The commands: one constructor per row of spec/opcode_table.json. An order carries its frame's SEQ and body and
stands for the Order Decoder's taking of that frame (R152; log 1). -/
inductive Instr
  | ident (seq : Byte) (body : List Byte)
  | status (seq : Byte) (body : List Byte)
  | time (seq : Byte) (body : List Byte)
  | setLink (seq : Byte) (body : List Byte)
  | reset (seq : Byte) (body : List Byte)
  | start (seq : Byte) (body : List Byte)
  | stop (seq : Byte) (body : List Byte)
  | pause (seq : Byte) (body : List Byte)
  | resume (seq : Byte) (body : List Byte)
  | setProfile (seq : Byte) (body : List Byte)
  | channel (seq : Byte) (body : List Byte)
  | manual (seq : Byte) (body : List Byte)
  | shot (seq : Byte) (body : List Byte)
  | shots (seq : Byte) (body : List Byte)
  | cancel (seq : Byte) (body : List Byte)
  | queueRead (seq : Byte) (body : List Byte)
  | setAngle (seq : Byte) (body : List Byte)
  | setCycle (seq : Byte) (body : List Byte)
  | camPut (seq : Byte) (body : List Byte)
  | camDrop (seq : Byte) (body : List Byte)
  | camClear (seq : Byte) (body : List Byte)
  | camCopy (seq : Byte) (body : List Byte)
  | camCommit (seq : Byte) (body : List Byte)
  | camAbort (seq : Byte) (body : List Byte)
  | camRead (seq : Byte) (body : List Byte)
  | setIset (seq : Byte) (body : List Byte)
  | isetRead (seq : Byte) (body : List Byte)
  | setConflict (seq : Byte) (body : List Byte)
  | conflictRead (seq : Byte) (body : List Byte)
  | setFaultin (seq : Byte) (body : List Byte)
  | setRail (seq : Byte) (body : List Byte)
  | setTgroup (seq : Byte) (body : List Byte)
  | trip (seq : Byte) (body : List Byte)
  | release (seq : Byte) (body : List Byte)
  | tripRead (seq : Byte) (body : List Byte)
  | unknownOrder (seq : Byte) (kind : Byte) (body : List Byte)
  | byteArrival (rx : RxByte)
  | gapTimerExpiry
  | linkTimerExpiry
  | frameSent
  | supplyFail
  | supplySettled
  | nrstLow
  | nrstHigh
  | encPulse
  | idxIndex
  | stallTimerExpiry
  | boostTimerExpiry (output : Output)
  | maxOnTimerExpiry (output : Output)
  | recoverTimerExpiry (output : Output)
  | deferTimerExpiry (output : Output)
  | shotStartDue (output : Output) (start : Time)
  | shotDropDue (output : Output) (start : Time)
  | shotEndDue (output : Output)
  | faultSample (input : InputId) (level : Level)
  /-- The rail in tenths of a volt, before it is clamped to 0 to 600 (R113). -/
  | railSample (rail : Int)
  | restoreTimerExpiry (group : GroupId)
  deriving DecidableEq, Repr

end Sys2Proof
end

