-- ==== Sys2Proof/WellFormed.lean ====
section
/-! DEFINITION. Which commands are well formed: those that some frame or event of the part can be. -/

namespace Sys2Proof

/-- The order kinds the controller knows (R170). -/
def knownKinds : List Byte :=
  [0x01, 0x02, 0x03, 0x04, 0x05, 0x10, 0x11, 0x12, 0x13, 0x20, 0x21, 0x22, 0x30, 0x31, 0x32, 0x33,
   0x40, 0x41, 0x42, 0x43, 0x44, 0x45, 0x46, 0x47, 0x48, 0x50, 0x51, 0x52, 0x53,
   0x60, 0x61, 0x62, 0x63, 0x64, 0x65]

/-- A body that a frame can carry: LEN, which counts SEQ and KIND as well, is at most 242 (R144, R167). -/
def bodyFits (body : List Byte) : Bool := body.length ≤ 240

/-- A frame the framer can have found. -/
def OrderFrame.wellFormed (f : OrderFrame) : Bool := bodyFits f.body

/-- The check of a command: an order's body fits a frame, and UNKNOWN_ORDER's kind is unknown. The other operands
are in range by their types. -/
def Instr.wellFormed : Instr → Bool
  | .ident _ b | .status _ b | .time _ b | .setLink _ b | .reset _ b => bodyFits b
  | .start _ b | .stop _ b | .pause _ b | .resume _ b => bodyFits b
  | .setProfile _ b | .channel _ b | .manual _ b => bodyFits b
  | .shot _ b | .shots _ b | .cancel _ b | .queueRead _ b => bodyFits b
  | .setAngle _ b | .setCycle _ b | .camPut _ b | .camDrop _ b | .camClear _ b | .camCopy _ b => bodyFits b
  | .camCommit _ b | .camAbort _ b | .camRead _ b => bodyFits b
  | .setIset _ b | .isetRead _ b | .setConflict _ b | .conflictRead _ b => bodyFits b
  | .setFaultin _ b | .setRail _ b | .setTgroup _ b | .trip _ b | .release _ b | .tripRead _ b => bodyFits b
  | .unknownOrder _ k b => bodyFits b && !knownKinds.contains k
  | .byteArrival _ | .gapTimerExpiry | .linkTimerExpiry | .frameSent => true
  | .supplyFail | .supplySettled | .nrstLow | .nrstHigh => true
  | .encPulse | .idxIndex | .stallTimerExpiry => true
  | .boostTimerExpiry _ | .maxOnTimerExpiry _ | .recoverTimerExpiry _ | .deferTimerExpiry _ => true
  | .shotStartDue _ _ | .shotDropDue _ _ | .shotEndDue _ => true
  | .faultSample _ _ | .railSample _ | .restoreTimerExpiry _ => true

end Sys2Proof
end

