-- ==== Sys2Proof/Decode.lean ====
section
/-! DEFINITION. Bytes to commands: the CRC and the frames of the link (R145 to R147, R167, R168), the commands that
frames stand for (R170), and the Order Decoder's checks of length and fields for each order (R171, R173, R174), each
beside the layout it reads. The opcode table gives no row bits, so no word spells a command. -/

namespace Sys2Proof

/-- The table gives no row bits: no word spells a command. -/
def decodeTableWord (_nbits _w : Nat) : Option Instr := none

/-! ## Multi-byte fields: least significant byte first (00_scope.md, Conventions) -/

/-- A two-byte field from its bytes as sent. -/
def le16 (b0 b1 : Byte) : Word16 := b1 ++ b0

/-- A four-byte field from its bytes as sent. -/
def le32 (b0 b1 b2 b3 : Byte) : BitVec 32 := b3 ++ b2 ++ b1 ++ b0

/-- The bytes of a two-byte field as sent. -/
def bytes16 (w : Word16) : List Byte := [w.extractLsb' 0 8, w.extractLsb' 8 8]

/-- The bytes of a four-byte field as sent. -/
def bytes32 (w : BitVec 32) : List Byte :=
  [w.extractLsb' 0 8, w.extractLsb' 8 8, w.extractLsb' 16 8, w.extractLsb' 24 8]

/-- A number as one byte. -/
def byteOf (n : Nat) : Byte := BitVec.ofNat 8 n

/-- A number as the two bytes of a field. -/
def nat16 (n : Nat) : List Byte := bytes16 (BitVec.ofNat 16 n)

/-- A number as the four bytes of a field. -/
def nat32 (n : Nat) : List Byte := bytes32 (BitVec.ofNat 32 n)

/-! ## The CRC (R168) -/

/-- The register shifted `n` times, with the polynomial 0x1021 taken in when a 1 leaves it. -/
def crcShift : Nat → Word16 → Word16
  | 0, c => c
  | n + 1, c => crcShift n (if c.getLsbD 15 then (c <<< 1) ^^^ 0x1021#16 else c <<< 1)

/-- One byte taken into the register: into its upper eight bits, then eight shifts. -/
def crcByte (c : Word16) (b : Byte) : Word16 := crcShift 8 (c ^^^ (b.setWidth 16 <<< 8))

/-- The CRC of a span of bytes. -/
def crc16 (span : List Byte) : Word16 := span.foldl crcByte 0xFFFF#16

/-! ## Order frames (R167) -/

/-- The start byte of every frame. -/
def startByte : Byte := 0x5A

/-- LEN and the bytes it counts: the span of the CRC. -/
def OrderFrame.span (f : OrderFrame) : List Byte := byteOf (f.body.length + 2) :: f.seq :: f.kind :: f.body

/-- The CRC an order frame carries; with SEQ it is the order's identity (R149). -/
def OrderFrame.crc (f : OrderFrame) : Word16 := crc16 f.span

/-- An order frame as it stands on the line. -/
def OrderFrame.bytes (f : OrderFrame) : List Byte := startByte :: f.span ++ bytes16 f.crc

/-! ## Finding frames (R144 to R147) -/

/-- What the bytes after a start byte make. -/
inductive Candidate
  /-- Too few bytes yet: the candidate goes on. -/
  | incomplete
  /-- LEN out of range or a CRC that differs: the candidate is discarded. -/
  | discarded
  /-- A CRC-good frame, with the bytes after it. -/
  | complete (f : OrderFrame) (rest : List Byte)
  deriving DecidableEq, Repr

/-- Judges the bytes after a start byte (R145, R146): LEN in 2 to 242, then LEN + 2 further bytes, then the CRC. -/
def judgeCandidate : List Byte → Candidate
  | [] => .incomplete
  | len :: rest =>
    if len.toNat < 2 ∨ 242 < len.toNat then .discarded
    else if rest.length < len.toNat + 2 then .incomplete
    else
      match rest.take len.toNat, rest.drop len.toNat with
      | seq :: kind :: body, c0 :: c1 :: after =>
        if crc16 (len :: seq :: kind :: body) = le16 c0 c1 then .complete ⟨seq, kind, body⟩ after else .discarded
      | _, _ => .discarded

/-- Takes bytes one after another as the framer does, from HUNT: a byte other than the start byte is dropped; a start
byte begins a candidate; a discarded candidate drops its start byte and the bytes after it are taken again (R147).
Answers the CRC-good frames found, in order, and the candidate left (empty in HUNT). With `atEnd` set, the bytes end
in a stop-bit error or a gap expiry, so a candidate left incomplete is discarded and rescanned in its turn. The first
argument bounds the number of bytes. -/
def scanBytes (atEnd : Bool) : Nat → List Byte → List OrderFrame × List Byte
  | 0, _ => ([], [])
  | _ + 1, [] => ([], [])
  | n + 1, b :: rest =>
    if b ≠ startByte then scanBytes atEnd n rest
    else
      match judgeCandidate rest with
      | .incomplete => if atEnd then scanBytes atEnd n rest else ([], b :: rest)
      | .discarded => scanBytes atEnd n rest
      | .complete f after =>
        let r := scanBytes atEnd n after
        (f :: r.1, r.2)

/-- The frames found in a run of bytes taken from HUNT, and the candidate left. -/
def scan (atEnd : Bool) (bytes : List Byte) : List OrderFrame × List Byte := scanBytes atEnd bytes.length bytes

/-- The framer's states (R144), read from the candidate it holds. -/
inductive FramerState
  | hunt
  | length
  | body
  deriving DecidableEq, Repr

/-- The framer's state: nothing held, the start byte alone, or LEN as well. -/
def framerState : List Byte → FramerState
  | [] => .hunt
  | [_] => .length
  | _ => .body

/-! ## The command a frame stands for (R170) -/

/-- The order command of a frame, by its KIND. -/
def orderCommand (f : OrderFrame) : Instr :=
  match f.kind.toNat with
  | 0x01 => .ident f.seq f.body
  | 0x02 => .status f.seq f.body
  | 0x03 => .time f.seq f.body
  | 0x04 => .setLink f.seq f.body
  | 0x05 => .reset f.seq f.body
  | 0x10 => .start f.seq f.body
  | 0x11 => .stop f.seq f.body
  | 0x12 => .pause f.seq f.body
  | 0x13 => .resume f.seq f.body
  | 0x20 => .setProfile f.seq f.body
  | 0x21 => .channel f.seq f.body
  | 0x22 => .manual f.seq f.body
  | 0x30 => .shot f.seq f.body
  | 0x31 => .shots f.seq f.body
  | 0x32 => .cancel f.seq f.body
  | 0x33 => .queueRead f.seq f.body
  | 0x40 => .setAngle f.seq f.body
  | 0x41 => .setCycle f.seq f.body
  | 0x42 => .camPut f.seq f.body
  | 0x43 => .camDrop f.seq f.body
  | 0x44 => .camClear f.seq f.body
  | 0x45 => .camCopy f.seq f.body
  | 0x46 => .camCommit f.seq f.body
  | 0x47 => .camAbort f.seq f.body
  | 0x48 => .camRead f.seq f.body
  | 0x50 => .setIset f.seq f.body
  | 0x51 => .isetRead f.seq f.body
  | 0x52 => .setConflict f.seq f.body
  | 0x53 => .conflictRead f.seq f.body
  | 0x60 => .setFaultin f.seq f.body
  | 0x61 => .setRail f.seq f.body
  | 0x62 => .setTgroup f.seq f.body
  | 0x63 => .trip f.seq f.body
  | 0x64 => .release f.seq f.body
  | 0x65 => .tripRead f.seq f.body
  | _ => .unknownOrder f.seq f.kind f.body

/-- The frame an order command stands for; the other commands stand for none. -/
def commandFrame : Instr → Option OrderFrame
  | .ident seq body => some ⟨seq, 0x01, body⟩
  | .status seq body => some ⟨seq, 0x02, body⟩
  | .time seq body => some ⟨seq, 0x03, body⟩
  | .setLink seq body => some ⟨seq, 0x04, body⟩
  | .reset seq body => some ⟨seq, 0x05, body⟩
  | .start seq body => some ⟨seq, 0x10, body⟩
  | .stop seq body => some ⟨seq, 0x11, body⟩
  | .pause seq body => some ⟨seq, 0x12, body⟩
  | .resume seq body => some ⟨seq, 0x13, body⟩
  | .setProfile seq body => some ⟨seq, 0x20, body⟩
  | .channel seq body => some ⟨seq, 0x21, body⟩
  | .manual seq body => some ⟨seq, 0x22, body⟩
  | .shot seq body => some ⟨seq, 0x30, body⟩
  | .shots seq body => some ⟨seq, 0x31, body⟩
  | .cancel seq body => some ⟨seq, 0x32, body⟩
  | .queueRead seq body => some ⟨seq, 0x33, body⟩
  | .setAngle seq body => some ⟨seq, 0x40, body⟩
  | .setCycle seq body => some ⟨seq, 0x41, body⟩
  | .camPut seq body => some ⟨seq, 0x42, body⟩
  | .camDrop seq body => some ⟨seq, 0x43, body⟩
  | .camClear seq body => some ⟨seq, 0x44, body⟩
  | .camCopy seq body => some ⟨seq, 0x45, body⟩
  | .camCommit seq body => some ⟨seq, 0x46, body⟩
  | .camAbort seq body => some ⟨seq, 0x47, body⟩
  | .camRead seq body => some ⟨seq, 0x48, body⟩
  | .setIset seq body => some ⟨seq, 0x50, body⟩
  | .isetRead seq body => some ⟨seq, 0x51, body⟩
  | .setConflict seq body => some ⟨seq, 0x52, body⟩
  | .conflictRead seq body => some ⟨seq, 0x53, body⟩
  | .setFaultin seq body => some ⟨seq, 0x60, body⟩
  | .setRail seq body => some ⟨seq, 0x61, body⟩
  | .setTgroup seq body => some ⟨seq, 0x62, body⟩
  | .trip seq body => some ⟨seq, 0x63, body⟩
  | .release seq body => some ⟨seq, 0x64, body⟩
  | .tripRead seq body => some ⟨seq, 0x65, body⟩
  | .unknownOrder seq kind body => some ⟨seq, kind, body⟩
  | _ => none

/-- Whether a KIND is one the controller knows (R170), as `orderCommand` reads it. -/
def kindKnown (kind : Byte) : Bool :=
  match orderCommand ⟨0, kind, []⟩ with
  | .unknownOrder _ _ _ => false
  | _ => true

/-! ## Fields (R172, R173, R174) -/

/-- An output number, 0 to 15. -/
def outputOf (b : Byte) : Option Output := if h : b.toNat < 16 then some ⟨b.toNat, h⟩ else none

/-- An interlock set number, 0 to 7. -/
def setOf (b : Byte) : Option SetId := if h : b.toNat < 8 then some ⟨b.toNat, h⟩ else none

/-- A group number, 0 to 3. -/
def groupOf (b : Byte) : Option GroupId := if h : b.toNat < 4 then some ⟨b.toNat, h⟩ else none

/-- A fault input number, 0 to 3. -/
def inputOf (b : Byte) : Option InputId := if h : b.toNat < 4 then some ⟨b.toNat, h⟩ else none

/-- A slot number, 0 to 95. -/
def slotOf (b : Byte) : Option Slot := if h : b.toNat < 96 then some ⟨b.toNat, h⟩ else none

/-- A baud code, 0 to 3. -/
def Baud.ofByte (b : Byte) : Option Baud :=
  match b.toNat with
  | 0 => some .b115200
  | 1 => some .b230400
  | 2 => some .b460800
  | 3 => some .b921600
  | _ => none

/-- The code of a baud code. -/
def Baud.byte : Baud → Byte
  | .b115200 => 0
  | .b230400 => 1
  | .b460800 => 2
  | .b921600 => 3

/-- The rate of a baud code, in bits per second (R142). -/
def Baud.rate : Baud → Nat
  | .b115200 => 115200
  | .b230400 => 230400
  | .b460800 => 460800
  | .b921600 => 921600

/-- A profile's source. -/
def Source.ofByte (b : Byte) : Option Source :=
  match b.toNat with
  | 0 => some .unused
  | 1 => some .shot
  | 2 => some .cam
  | 3 => some .manual
  | _ => none

/-- The code of a profile's source. -/
def Source.byte : Source → Byte
  | .unused => 0
  | .shot => 1
  | .cam => 2
  | .manual => 3

/-- A polarity. -/
def Polarity.ofByte (b : Byte) : Option Polarity :=
  match b.toNat with
  | 0 => some .highActive
  | 1 => some .lowActive
  | _ => none

/-- The code of a polarity. -/
def Polarity.byte : Polarity → Byte
  | .highActive => 0
  | .lowActive => 1

/-- A fault input's active level: 0 HIGH, 1 LOW (R174). -/
def Level.ofByte (b : Byte) : Option Level :=
  match b.toNat with
  | 0 => some .high
  | 1 => some .low
  | _ => none

/-- The code of an active level. -/
def Level.byte : Level → Byte
  | .high => 0
  | .low => 1

/-- The other level. -/
def Level.other : Level → Level
  | .high => .low
  | .low => .high

/-- A release mode: 0 MANUAL, 1 AUTO (R174). -/
def ReleaseMode.ofByte (b : Byte) : Option ReleaseMode :=
  match b.toNat with
  | 0 => some .manual
  | 1 => some .auto
  | _ => none

/-- The code of a release mode. -/
def ReleaseMode.byte : ReleaseMode → Byte
  | .manual => 0
  | .auto => 1

/-- A queue policy: 0 PURGE, 1 KEEP (R174). -/
def QueuePolicy.ofByte (b : Byte) : Option QueuePolicy :=
  match b.toNat with
  | 0 => some .purge
  | 1 => some .keep
  | _ => none

/-- The code of a queue policy. -/
def QueuePolicy.byte : QueuePolicy → Byte
  | .purge => 0
  | .keep => 1

/-- A conflict policy: 0 KEEP_FIRST, 1 KEEP_LATEST (R174). -/
def ConflictPolicy.ofByte (b : Byte) : Option ConflictPolicy :=
  match b.toNat with
  | 0 => some .keepFirst
  | 1 => some .keepLatest
  | _ => none

/-- A table selector: 0 ACTIVE, 1 SHADOW (R174). -/
def TableSel.ofByte (b : Byte) : Option TableSel :=
  match b.toNat with
  | 0 => some .active
  | 1 => some .shadow
  | _ => none

/-- The code of a table selector. -/
def TableSel.byte : TableSel → Byte
  | .active => 0
  | .shadow => 1

/-- An interlock set field: 0 to 7, or 0xFF for none (R172). -/
def isetFieldOf (b : Byte) : Option (Option SetId) :=
  if b = 0xFF then some none else (setOf b).map some

/-- The byte of an interlock set field. -/
def isetByte : Option SetId → Byte
  | none => 0xFF
  | some i => byteOf i.val

/-- A group mask: bits 4 to 7 are reserved (R172). -/
def groupMaskOf (b : Byte) : Option (BitVec 4) :=
  if b.extractLsb' 4 4 = 0 then some (b.extractLsb' 0 4) else none

/-- The decoder's answer where a field is out of range or a reserved bit is set (R171). -/
def fieldOr {α : Type} : Option α → Except Result α
  | some a => .ok a
  | none => .error .badField

/-! ## The decoder's checks, order by order: length first (BAD_LENGTH), then fields (BAD_FIELD) -/

/-- Orders with an empty body (R173, R174). -/
def decodeEmpty : List Byte → Except Result Unit
  | [] => .ok ()
  | _ => .error .badLength

/-- SET_LINK: baud code, link timeout in ms (0, or 10 to 65,535). -/
def decodeSetLink : List Byte → Except Result (Baud × Nat)
  | [b, t0, t1] => fieldOr do
    let baud ← Baud.ofByte b
    let t := (le16 t0 t1).toNat
    if t = 0 ∨ 10 ≤ t then some (baud, t) else none
  | _ => .error .badLength

/-- SET_PROFILE: the output and the eight fields of R18. -/
def decodeSetProfile : List Byte → Except Result (Output × Profile)
  | [o, src, b0, b1, d, m0, m1, x0, x1, iset, g, pol] => fieldOr do
    let out ← outputOf o
    let source ← Source.ofByte src
    let boost := (le16 b0 b1).toNat
    let maxOn := (le16 x0 x1).toNat
    let set ← isetFieldOf iset
    let groups ← groupMaskOf g
    let polarity ← Polarity.ofByte pol
    if boost ≤ 10000 ∧ 1 ≤ d.toNat ∧ d.toNat ≤ 100 ∧ maxOn ≤ 60000 then
      some (out, ⟨source, boost, d.toNat, (le16 m0 m1).toNat, maxOn, set, groups, polarity⟩)
    else none
  | _ => .error .badLength

/-- The body of a SET_PROFILE order. -/
def setProfileBody (o : Output) (p : Profile) : List Byte :=
  byteOf o.val :: p.source.byte :: nat16 p.boost ++ byteOf p.duty :: nat16 p.minOff ++ nat16 p.maxOn ++
    [isetByte p.iset, p.groups.setWidth 8, p.polarity.byte]

/-- Orders whose body is one output number: CHANNEL. -/
def decodeOutput : List Byte → Except Result Output
  | [o] => fieldOr (outputOf o)
  | _ => .error .badLength

/-- MANUAL: output, setting (true for on). -/
def decodeManual : List Byte → Except Result (Output × Bool)
  | [o, v] => fieldOr do
    let out ← outputOf o
    match v.toNat with
    | 0 => some (out, false)
    | 1 => some (out, true)
    | _ => none
  | _ => .error .badLength

/-- One entry laid out as the SHOT body, and the bytes after it. -/
def shotFieldsOf : List Byte → Option (ShotFields × List Byte)
  | o :: f :: t0 :: t1 :: s0 :: s1 :: s2 :: s3 :: d0 :: d1 :: d2 :: d3 :: g0 :: g1 :: rest =>
    some (⟨o, f, le16 t0 t1, le32 s0 s1 s2 s3, (le32 d0 d1 d2 d3).toNat, (le16 g0 g1).toNat⟩, rest)
  | _ => none

/-- The bytes of one entry. -/
def shotBody (e : ShotFields) : List Byte :=
  e.output :: e.flags :: bytes16 e.tag ++ bytes32 e.start ++ nat32 e.duration ++ nat16 e.grace

/-- SHOT: the decoder checks the length alone (R44). -/
def decodeShot (body : List Byte) : Except Result ShotFields :=
  match shotFieldsOf body with
  | some (e, []) => .ok e
  | _ => .error .badLength

/-- `n` entries, with nothing after them. -/
def shotEntriesOf : Nat → List Byte → Option (List ShotFields)
  | 0, [] => some []
  | 0, _ => none
  | n + 1, body =>
    match shotFieldsOf body with
    | some (e, rest) => (shotEntriesOf n rest).map (e :: ·)
    | none => none

/-- SHOTS (R171): a first byte, else BAD_LENGTH; a count of 1 to 16, else BAD_FIELD; a length of 1 + 14 × count,
else BAD_LENGTH. -/
def decodeShots : List Byte → Except Result (List ShotFields)
  | [] => .error .badLength
  | c :: rest =>
    if c.toNat < 1 ∨ 16 < c.toNat then .error .badField
    else
      match shotEntriesOf c.toNat rest with
      | some es => .ok es
      | none => .error .badLength

/-- The fields of a CANCEL: the outputs it looks in, the tag, the include-active flag. -/
structure CancelFields where
  outputs : List Output
  tag : Word16
  includeActive : Bool
  deriving DecidableEq, Repr

/-- The outputs in ascending order. -/
def allOutputs : List Output := [0, 1, 2, 3, 4, 5, 6, 7, 8, 9, 10, 11, 12, 13, 14, 15]

/-- The groups in ascending order. -/
def allGroups : List GroupId := [0, 1, 2, 3]

/-- The fault inputs in ascending order. -/
def allInputs : List InputId := [0, 1, 2, 3]

/-- CANCEL: an output or 0xFF for all sixteen; flag bit 0 include-active, the others reserved. -/
def decodeCancel : List Byte → Except Result CancelFields
  | [o, f, t0, t1] => fieldOr do
    let outs ← if o = 0xFF then some allOutputs else (outputOf o).map ([·])
    if f.extractLsb' 1 7 = 0 then some ⟨outs, le16 t0 t1, f.getLsbD 0⟩ else none
  | _ => .error .badLength

/-- QUEUE_READ: output, first index 0 to 47. -/
def decodeQueueRead : List Byte → Except Result (Output × Nat)
  | [o, i] => fieldOr do
    let out ← outputOf o
    if i.toNat ≤ 47 then some (out, i.toNat) else none
  | _ => .error .badLength

/-- The fields of SET_ANGLE. -/
structure AngleFields where
  cycleLength : Nat
  tolerance : Nat
  stallTimeout : Nat
  deriving DecidableEq, Repr

/-- SET_ANGLE: L 0 or 8 to 65,535, tolerance 0 to 15; their relation is the owner's (R16). -/
def decodeSetAngle : List Byte → Except Result AngleFields
  | [l0, l1, t, s0, s1] =>
    let l := (le16 l0 l1).toNat
    if (l = 0 ∨ 8 ≤ l) ∧ t.toNat ≤ 15 then .ok ⟨l, t.toNat, (le16 s0 s1).toNat⟩ else .error .badField
  | _ => .error .badLength

/-- The body of a SET_ANGLE order. -/
def setAngleBody (a : AngleFields) : List Byte := nat16 a.cycleLength ++ byteOf a.tolerance :: nat16 a.stallTimeout

/-- SET_CYCLE: a cycle count. -/
def decodeSetCycle : List Byte → Except Result Time
  | [c0, c1, c2, c3] => .ok (le32 c0 c1 c2 c3)
  | _ => .error .badLength

/-- CAM_PUT: divisor 1 to 8, phase 0 to divisor - 1; the angles are the owner's (R71). -/
def decodeCamPut : List Byte → Except Result Window
  | [o, n0, n1, f0, f1, d, p] => fieldOr do
    let out ← outputOf o
    if 1 ≤ d.toNat ∧ d.toNat ≤ 8 ∧ p.toNat < d.toNat then
      some ⟨out, (le16 n0 n1).toNat, (le16 f0 f1).toNat, d.toNat, p.toNat⟩
    else none
  | _ => .error .badLength

/-- The body of a CAM_PUT order. -/
def camPutBody (w : Window) : List Byte :=
  byteOf w.output.val :: nat16 w.onAngle ++ nat16 w.offAngle ++ [byteOf w.divisor, byteOf w.phase]

/-- CAM_DROP: a slot byte, which the owner judges (R72). -/
def decodeCamDrop : List Byte → Except Result Byte
  | [b] => .ok b
  | _ => .error .badLength

/-- CAM_READ: a selector, and a slot byte, which the owner judges (R75). -/
def decodeCamRead : List Byte → Except Result (TableSel × Byte)
  | [t, b] => fieldOr do
    let sel ← TableSel.ofByte t
    some (sel, b)
  | _ => .error .badLength

/-- The fields of SET_ISET. -/
structure IsetFields where
  set : SetId
  capacity : Nat
  deferLimit : Nat
  deriving DecidableEq, Repr

/-- SET_ISET: set 0 to 7, capacity 1 to 16. -/
def decodeSetIset : List Byte → Except Result IsetFields
  | [i, c, d0, d1] => fieldOr do
    let set ← setOf i
    if 1 ≤ c.toNat ∧ c.toNat ≤ 16 then some ⟨set, c.toNat, (le16 d0 d1).toNat⟩ else none
  | _ => .error .badLength

/-- The body of a SET_ISET order. -/
def setIsetBody (f : IsetFields) : List Byte := byteOf f.set.val :: byteOf f.capacity :: nat16 f.deferLimit

/-- ISET_READ: a set number. -/
def decodeIsetRead : List Byte → Except Result SetId
  | [i] => fieldOr (setOf i)
  | _ => .error .badLength

/-- SET_CONFLICT: a policy. -/
def decodeSetConflict : List Byte → Except Result ConflictPolicy
  | [p] => fieldOr (ConflictPolicy.ofByte p)
  | _ => .error .badLength

/-- The fields of SET_FAULTIN. -/
structure FaultinFields where
  input : InputId
  activeLevel : Level
  period : Nat
  depth : Nat
  deriving DecidableEq, Repr

/-- SET_FAULTIN: input 0 to 3, a level, period and depth 1 to 255. -/
def decodeSetFaultin : List Byte → Except Result FaultinFields
  | [i, l, p, d] => fieldOr do
    let input ← inputOf i
    let level ← Level.ofByte l
    if 1 ≤ p.toNat ∧ 1 ≤ d.toNat then some ⟨input, level, p.toNat, d.toNat⟩ else none
  | _ => .error .badLength

/-- The body of a SET_FAULTIN order. -/
def setFaultinBody (f : FaultinFields) : List Byte :=
  [byteOf f.input.val, f.activeLevel.byte, byteOf f.period, byteOf f.depth]

/-- The fields of SET_RAIL. -/
structure RailFields where
  enable : Bool
  low : Nat
  high : Nat
  depth : Nat
  deriving DecidableEq, Repr

/-- SET_RAIL: enable 0 or 1, limits 0 to 600, depth 1 to 255; the limits' order is the owner's (R115). -/
def decodeSetRail : List Byte → Except Result RailFields
  | [e, l0, l1, h0, h1, d] =>
    let low := (le16 l0 l1).toNat
    let high := (le16 h0 h1).toNat
    if e.toNat ≤ 1 ∧ low ≤ 600 ∧ high ≤ 600 ∧ 1 ≤ d.toNat then .ok ⟨e = 1, low, high, d.toNat⟩ else .error .badField
  | _ => .error .badLength

/-- The body of a SET_RAIL order. -/
def setRailBody (f : RailFields) : List Byte :=
  (if f.enable then 1 else 0) :: nat16 f.low ++ nat16 f.high ++ [byteOf f.depth]

/-- The fields of SET_TGROUP. -/
structure TgroupFields where
  group : GroupId
  sources : Byte
  releaseMode : ReleaseMode
  restoreDelay : Nat
  policy : QueuePolicy
  deriving DecidableEq, Repr

/-- SET_TGROUP: the HOST bit of the source mask is reserved (R127). -/
def decodeSetTgroup : List Byte → Except Result TgroupFields
  | [g, s, r, d0, d1, q] => fieldOr do
    let group ← groupOf g
    let release ← ReleaseMode.ofByte r
    let policy ← QueuePolicy.ofByte q
    if s.getLsbD 7 then none else some ⟨group, s, release, (le16 d0 d1).toNat, policy⟩
  | _ => .error .badLength

/-- The body of a SET_TGROUP order. -/
def setTgroupBody (f : TgroupFields) : List Byte :=
  byteOf f.group.val :: f.sources :: f.releaseMode.byte :: nat16 f.restoreDelay ++ [f.policy.byte]

/-- TRIP: a group mask. -/
def decodeTrip : List Byte → Except Result (BitVec 4)
  | [m] => fieldOr (groupMaskOf m)
  | _ => .error .badLength

/-- Orders whose body is one group number: RELEASE, TRIP_READ. -/
def decodeGroup : List Byte → Except Result GroupId
  | [g] => fieldOr (groupOf g)
  | _ => .error .badLength

end Sys2Proof
end

