-- ==== Sys2Proof/Config.lean ====
section
/-! DEFINITION. What the part fixes (its capacities and limits) and the one free value of the model. -/

namespace Sys2Proof.Config

/-- Places of the shot pool (R41). -/
def poolEntries : Nat := 192
/-- Entries one output's queue may hold (R41). -/
def queueEntries : Nat := 48
/-- The furthest ahead a shot may be booked, in us (R46). -/
def horizon : Nat := 60000000
/-- The shortest duration of a shot, in us (R42). -/
def minDuration : Nat := 10
/-- The longest duration of a shot, in us (R42). -/
def maxDuration : Nat := 60000000
/-- Entries one QUEUE_READ reply returns (R63). -/
def queueReadEntries : Nat := 8
/-- Frames the order inbox holds (R150). -/
def inboxFrames : Nat := 4
/-- Replies the reply queue holds (R153). -/
def replyFrames : Nat := 8
/-- Entries of the reply cache (R151). -/
def cacheEntries : Nat := 4
/-- Notices the waiting list holds (R161). -/
def noticePlaces : Nat := 32
/-- Replies the arbiter lets pass a waiting notice (R154). -/
def streakLimit : Nat := 4
/-- The framer's gap limit, in us (R148). -/
def gapLimit : Nat := 2000
/-- The rail monitor's sampling interval, in us (R113). -/
def railPeriod : Nat := 100
/-- The period of the hold phase's switching, in us (R22: 20 kHz). -/
def holdPeriod : Nat := 50

/-- FREE VALUE (log 4). Where the manual says that either of several events may be taken first, the model takes
the one this constant picks: the k-th pick is `freePick k`, taken modulo the number of events left. It has no body,
so nothing can be proved of the order, and what is proved holds in every order. -/
opaque freePick : Nat → Nat

end Sys2Proof.Config
end

