-- ==== Sys2Proof/Machine/State.lean ====
section
/-! DEFINITION. The state of the part, block by block, as plain data; the reasons a step can stop (the part has
none); the values after a reset and the machine right after a POWER reset. -/

namespace Sys2Proof.Machine

/-! ## Angle Tracker (R4) -/

/-- The tracker's states. -/
inductive TrackerState
  | off
  | unsynced
  | verifying
  | synced
  | stalled
  deriving DecidableEq, Repr

/-- The causes of a TRACKER notice (R15). -/
inductive TrackerCause
  | config
  | firstIndex
  | verified
  | indexMissing
  | syncLost
  | stall
  | motion
  deriving DecidableEq, Repr

/-- What the tracker holds (R4). The stall timer is its expiry, or none when stopped. -/
structure Tracker where
  cycleLength : Nat
  tolerance : Nat
  stallTimeout : Nat
  state : TrackerState
  pulses : Nat
  position : Nat
  cycle : Time
  stallTimer : Option Time
  deriving DecidableEq, Repr

/-! ## Drive Channels (R20) -/

/-- Where a demand comes from (R20). -/
inductive Origin
  | shot (tag : Word16)
  | cam (slot : Slot)
  | manual
  deriving DecidableEq, Repr

/-- The channel states (R20). -/
inductive ChannelState
  | off
  | recover
  | queued
  | boost
  | hold
  | overtime
  | inhibited
  deriving DecidableEq, Repr

/-- A channel's record (R20). Each timer is its expiry, or none when stopped. `holdPhase` is the number of us since
the present hold period began, 0 to 49 (R22). -/
structure Channel where
  state : ChannelState
  demand : Option Origin
  remembered : Option Origin
  manualDemand : Bool
  driveStart : Option Time
  lastStop : Option Time
  boostTimer : Option Time
  maxOnTimer : Option Time
  recoverTimer : Option Time
  deferTimer : Option Time
  holdPhase : Nat
  deriving DecidableEq, Repr

/-! ## Shot Scheduler (R41, R42) -/

/-- An entry's state; the drive start is there in ACTIVE alone (R42). -/
inductive EntryState
  | waiting
  | late
  | deferred
  | active (driveStart : Time)
  deriving DecidableEq, Repr

/-- A shot entry (R42); its output is the queue it stands in. -/
structure Entry where
  tag : Word16
  start : Time
  duration : Nat
  grace : Nat
  report : Bool
  state : EntryState
  deriving DecidableEq, Repr

/-! ## Cam Unit (R67, R68) -/

/-- The pieces of a window (R68). -/
inductive Piece
  | plain
  | head
  | tail
  deriving DecidableEq, Repr

/-- A pass (R67). -/
structure Pass where
  slot : Slot
  piece : Piece
  entryCycle : Time
  deriving DecidableEq, Repr

/-- A cam table: 96 slots. -/
abbrev CamTable := Vector (Option Window) 96

/-- What the Cam Unit holds (R67). -/
structure CamUnit where
  active : CamTable
  shadow : CamTable
  commitPending : Bool
  passes : Vector (Option Pass) 16
  deriving DecidableEq, Repr

/-! ## Interlock Unit (R91, R100) -/

/-- An interlock set (R91). The occupants are kept in ascending order, the grant list oldest first. -/
structure ISet where
  capacity : Nat
  deferLimit : Nat
  occupants : List Output
  grants : List Output
  deriving DecidableEq, Repr

/-- A present conflict record (R100). -/
structure ConflictRecord where
  output : Output
  set : SetId
  time : Time
  occupants : List Output
  grantLength : Nat
  origin : Origin
  later : Bool
  deriving DecidableEq, Repr

/-! ## Trip Unit (R109, R113, R118) -/

/-- A fault input (R109). -/
structure FaultIn where
  activeLevel : Level
  period : Nat
  depth : Nat
  filtered : Level
  run : Nat
  nextSample : Time
  deriving DecidableEq, Repr

/-- The rail monitor and its two sources (R113, R114). -/
structure RailMonitor where
  enable : Bool
  low : Nat
  high : Nat
  depth : Nat
  lastSample : Nat
  lowRun : Nat
  highRun : Nat
  lowActive : Bool
  highActive : Bool
  nextSample : Time
  deriving DecidableEq, Repr

/-- A trip group's states (R118). -/
inductive GroupState
  | normal
  | tripped
  | releasing
  deriving DecidableEq, Repr

/-- A trip group (R118). `sources` is a source mask (R172) whose HOST bit is clear. -/
structure TripGroup where
  sources : Byte
  releaseMode : ReleaseMode
  restoreDelay : Nat
  policy : QueuePolicy
  state : GroupState
  hostTrip : Bool
  restoreTimer : Option Time
  deriving DecidableEq, Repr

/-! ## Notices (R161, R177) -/

/-- The result of a SHOT_END notice (R64). -/
inductive ShotEnd
  | done
  | cancelled
  | aborted
  deriving DecidableEq, Repr

/-- The result of a SHOT_DROPPED notice (R65). -/
inductive ShotDrop
  | lateDropped
  | deferExpired
  deriving DecidableEq, Repr

/-- The reason of a CAM_SKIPPED notice (R89). -/
inductive SkipReason
  | deferExpired
  | unserved
  deriving DecidableEq, Repr

/-- The cause of a CAM_COMMITTED notice (R90); ORDER is the IMMEDIATE kind, the others DEFERRED. -/
inductive CommitCause
  | order
  | index
  | tracker
  | mode
  deriving DecidableEq, Repr

/-- How a group was released (R128). -/
inductive ReleaseHow
  | restored
  | order
  deriving DecidableEq, Repr

/-- The notices and what each carries (R177). -/
inductive NoticeBody
  | started (cause : ResetCause)
  | shotEnd (output : Output) (tag : Word16) (result : ShotEnd) (start : Time) (driveStart : Option Time) (time : Time)
  | shotDropped (output : Output) (tag : Word16) (result : ShotDrop) (start : Time) (grace : Nat) (time : Time)
  | camSkipped (output : Output) (slot : Slot) (entryCycle : Time) (reason : SkipReason) (time : Time)
  | manualDropped (output : Output) (set : Option SetId) (time : Time)
  | overtime (output : Output) (origin : Option Origin) (driveStart : Option Time) (time : Time)
  | tracker (old new : TrackerState) (cause : TrackerCause)
  | camCommitted (cause : CommitCause) (cycle : Time) (windows : Nat)
  | groupTripped (group : GroupId) (sources : Byte) (purged : Nat) (time : Time)
  | groupReleased (group : GroupId) (how : ReleaseHow) (time : Time)
  | conflict (output : Output) (set : SetId) (time : Time) (origin : Origin)
  deriving DecidableEq, Repr

/-- A posted notice with its number (R161). -/
structure Notice where
  number : Word16
  body : NoticeBody
  deriving DecidableEq, Repr

/-- The Notice Queue (R161). -/
structure NoticeQueue where
  waiting : List Notice
  next : Word16
  deriving DecidableEq, Repr

/-! ## Replies (R175, R176) -/

/-- The fields of a STATUS reply (R140). -/
structure StatusReport where
  mode : Mode
  resetCause : ResetCause
  tracker : TrackerState
  groups : List GroupState
  sources : Byte
  rail : Nat
  poolUse : Nat
  noticeFill : Nat
  nextNotice : Word16
  now : Time
  deriving DecidableEq, Repr

/-- The fields of a CHANNEL reply (R40); a timer is the time left, or none when it is not running. -/
structure ChannelReport where
  state : ChannelState
  demand : Option Origin
  remembered : Option Origin
  manualDemand : Bool
  driveStart : Option Time
  lastStop : Option Time
  boost : Option Time
  maxOn : Option Time
  recover : Option Time
  defer : Option Time
  queueLength : Nat
  iset : Option SetId
  deriving DecidableEq, Repr

/-- The entry state a SHOT reply or a QUEUE_READ entry reports (R48, R172). -/
inductive EntryReport
  | waiting
  | late
  | deferred
  | active
  | deferExpired
  deriving DecidableEq, Repr

/-- The fields of a TRIP_READ reply (R126). -/
structure TripReport where
  state : GroupState
  sources : Byte
  activeSources : Byte
  hostTrip : Bool
  releaseMode : ReleaseMode
  restoreDelay : Nat
  policy : QueuePolicy
  timeLeft : Time
  members : List Output
  deriving DecidableEq, Repr

/-- The bodies of replies (R175, R176). -/
inductive ReplyBody
  /-- The result code alone. -/
  | code (r : Result)
  | ident
  | status (r : StatusReport)
  | time (now : Time) (tracker : TrackerState) (position : Nat) (cycle : Time)
  | setLink (baud : Baud) (timeout : Nat)
  /-- START and RESUME: the held outputs. -/
  | held (outputs : List Output)
  /-- STOP: the entries purged. -/
  | purged (n : Nat)
  | manual (state : ChannelState) (present : Bool)
  | channel (r : ChannelReport)
  | shot (start : Time) (state : EntryReport) (queueLength poolUse : Nat)
  /-- SHOT refused with OVERLAP: the entry met. -/
  | overlap (tag : Word16) (start : Time)
  /-- SHOTS: the result, the count accepted and the refused index, and for OVERLAP the entry met. -/
  | shots (r : Result) (accepted : Nat) (index : Nat) (met : Option (Word16 × Time))
  | cancelled (n : Nat)
  | queue (length first : Nat) (entries : List Entry)
  | camPut (slot : Slot)
  /-- CAM_PUT refused with WINDOW_OVERLAP: the lowest conflicting slot. -/
  | windowOverlap (slot : Slot)
  /-- CAM_CLEAR and CAM_COPY: a number of windows. -/
  | windows (n : Nat)
  | commit (pending : Bool) (windows : Nat)
  | camRead (table : TableSel) (slot : Slot) (w : Window) (pass : Option Pass)
  | iset (capacity deferLimit : Nat) (members occupants : List Output) (grants : List (Output × Time))
  | conflict (record : Option ConflictRecord)
  | trip (groups : List GroupState)
  /-- RELEASE, and SET_TGROUP as R127 has it (log 14): the group's state. -/
  | groupState (state : GroupState)
  /-- RELEASE refused with SOURCES_ACTIVE: the active configured sources. -/
  | sourcesActive (sources : Byte)
  | tripRead (r : TripReport)
  deriving DecidableEq, Repr

/-! ## Link Controller and Order Decoder (R144 to R160) -/

/-- What the last byte of a reply sets off: nothing, a baud change (R158) or an ORDER reset (R139). -/
inductive Bound
  | nothing
  | baud (b : Baud)
  | reset
  deriving DecidableEq, Repr

/-- A reply in the reply queue: SEQ, KIND, body, and what its last byte sets off (R153). -/
structure Reply where
  seq : Byte
  kind : Byte
  body : ReplyBody
  bound : Bound
  deriving DecidableEq, Repr

/-- A reply-cache entry (R151): the identity of an order and the reply it earned. -/
structure CacheEntry where
  seq : Byte
  crc : Word16
  kind : Byte
  body : ReplyBody
  deriving DecidableEq, Repr

/-- An outgoing frame (R167), its FLAGS taken at its first byte (R155). -/
structure OutFrame where
  notice : Bool
  seq : Byte
  kind : Byte
  flags : Byte
  body : List Byte
  deriving DecidableEq, Repr

/-- A frame being sent. `progress` counts the bits that have gone, in millionths (log 8). -/
structure Transmission where
  frame : OutFrame
  bound : Bound
  progress : Nat
  deriving DecidableEq, Repr

/-- What the Link Controller and the Order Decoder hold (R160). `candidate` is the bytes the framer holds (R144);
`halted` is the decoder's halt after a RESET (R139). -/
structure Link where
  baud : Baud
  candidate : List Byte
  gapTimer : Option Time
  inbox : List OrderFrame
  halted : Bool
  replies : List Reply
  cache : List CacheEntry
  timeout : Nat
  timer : Option Time
  linkActive : Bool
  streak : Nat
  tx : Option Transmission
  deriving DecidableEq, Repr

/-! ## Pins -/

/-- The pins the part reads as levels: the supply (settled at its operating level or not), nRST, the fault inputs,
and the rail in tenths of a volt (R137, R109, R113). -/
structure Pins where
  supplySettled : Bool
  nrst : Level
  faults : Vector Level 4
  rail : Int
  deriving DecidableEq, Repr

/-! ## The whole part -/

/-- The state of the part. `pending` is the queue of commands; `choices` and `picks` are the model's own (log 4). -/
structure State where
  pending : List Instr
  now : Time
  mode : Mode
  resetCause : ResetCause
  tracker : Tracker
  profiles : Vector Profile 16
  channels : Vector Channel 16
  queues : Vector (List Entry) 16
  cam : CamUnit
  isets : Vector ISet 8
  conflict : Option ConflictRecord
  conflictPolicy : ConflictPolicy
  faultIns : Vector FaultIn 4
  rail : RailMonitor
  groups : Vector TripGroup 4
  link : Link
  notices : NoticeQueue
  pins : Pins
  choices : List Nat
  picks : Nat
  deriving DecidableEq, Repr

/-- The reasons a step of the part can stop with a fault: none. The manual answers every bad order with a result code
(R178), discards every damaged frame (R147) and describes every reset (R137). -/
inductive Fault
  deriving DecidableEq, Repr

/-- The reasons a command can be refused by the model. -/
inductive Refusal
  /-- Raised by exec for a command that has no meaning yet, by its mnemonic; no command of this model raises it. Safe:
  the model stops where the part goes on. -/
  | notModelled (mnemonic : String)
  deriving DecidableEq, Repr

/-! ## Values after a reset -/

/-- The tracker after any reset (R4). -/
def Tracker.afterReset : Tracker :=
  { cycleLength := 0, tolerance := 2, stallTimeout := 0, state := .off, pulses := 0, position := 0, cycle := 0,
    stallTimer := none }

/-- An output's profile after any reset (R18). -/
def Profile.afterReset : Profile :=
  { source := .unused, boost := 0, duty := 100, minOff := 0, maxOn := 0, iset := none, groups := 0,
    polarity := .highActive }

/-- A channel's record after any reset (R20). -/
def Channel.afterReset : Channel :=
  { state := .inhibited, demand := none, remembered := none, manualDemand := false, driveStart := none,
    lastStop := none, boostTimer := none, maxOnTimer := none, recoverTimer := none, deferTimer := none,
    holdPhase := 0 }

/-- The Cam Unit after any reset (R67). -/
def CamUnit.afterReset : CamUnit :=
  { active := Vector.replicate 96 none, shadow := Vector.replicate 96 none, commitPending := false,
    passes := Vector.replicate 16 none }

/-- An interlock set after any reset (R91). -/
def ISet.afterReset : ISet := { capacity := 1, deferLimit := 0, occupants := [], grants := [] }

/-- A fault input after any reset (R109): its first sample falls one period, 10 us, after the end of the reset. -/
def FaultIn.afterReset : FaultIn :=
  { activeLevel := .high, period := 10, depth := 8, filtered := .low, run := 0, nextSample := 10 }

/-- The rail monitor after any reset (R113). -/
def RailMonitor.afterReset : RailMonitor :=
  { enable := false, low := 0, high := 600, depth := 8, lastSample := 0, lowRun := 0, highRun := 0,
    lowActive := false, highActive := false, nextSample := 0 }

/-- A trip group after any reset (R118). -/
def TripGroup.afterReset : TripGroup :=
  { sources := 0, releaseMode := .manual, restoreDelay := 0, policy := .purge, state := .normal, hostTrip := false,
    restoreTimer := none }

/-- The Link Controller at the end of a reset, with the baud code that reset leaves (R160). -/
def Link.afterReset (baud : Baud) : Link :=
  { baud := baud, candidate := [], gapTimer := none, inbox := [], halted := false, replies := [], cache := [],
    timeout := 0, timer := none, linkActive := false, streak := 0, tx := none }

/-- The Notice Queue at the end of a reset (R161): STARTED, number 0, with the cause. -/
def NoticeQueue.afterReset (cause : ResetCause) : NoticeQueue :=
  { waiting := [⟨0, .started cause⟩], next := 1 }

/-- Every block at its values after a reset of the cause given (R137), before the arbiter's choice at the end of the
reset (R154). What is not the part's stays: the queue of commands, the pins, the choices. -/
def State.afterReset (s : State) (cause : ResetCause) (baud : Baud) : State :=
  { pending := s.pending
    now := 0
    mode := .idle
    resetCause := cause
    tracker := Tracker.afterReset
    profiles := Vector.replicate 16 Profile.afterReset
    channels := Vector.replicate 16 Channel.afterReset
    queues := Vector.replicate 16 []
    cam := CamUnit.afterReset
    isets := Vector.replicate 8 ISet.afterReset
    conflict := none
    conflictPolicy := .keepFirst
    faultIns := Vector.replicate 4 FaultIn.afterReset
    rail := RailMonitor.afterReset
    groups := Vector.replicate 4 TripGroup.afterReset
    link := Link.afterReset baud
    notices := NoticeQueue.afterReset cause
    pins := s.pins
    choices := s.choices
    picks := s.picks }

/-- The STARTED frame of a POWER reset: KIND 0xC0, FLAGS with the notice-frame bit alone (IDLE, no group, no notice
behind it), the notice number 0 and the cause POWER (R164, R169, R177). -/
def startedFrame : OutFrame := { notice := true, seq := 0, kind := 0xC0, flags := 0x80, body := [0, 0, 0] }

/-- The machine right after a POWER reset. The arbiter has chosen at the end of the reset, as R154 says, so the
STARTED notice, which R161 puts alone into the waiting list, has left it and is being sent (log 6). The commands'
queue is empty; the pins and the model's own fields stand at the values logs 4, 5 and 7 name. -/
def State.reset : State :=
  { pending := []
    now := 0
    mode := .idle
    resetCause := .power
    tracker := Tracker.afterReset
    profiles := Vector.replicate 16 Profile.afterReset
    channels := Vector.replicate 16 Channel.afterReset
    queues := Vector.replicate 16 []
    cam := CamUnit.afterReset
    isets := Vector.replicate 8 ISet.afterReset
    conflict := none
    conflictPolicy := .keepFirst
    faultIns := Vector.replicate 4 FaultIn.afterReset
    rail := RailMonitor.afterReset
    groups := Vector.replicate 4 TripGroup.afterReset
    link := { Link.afterReset .b115200 with tx := some { frame := startedFrame, bound := .nothing, progress := 0 } }
    notices := { waiting := [], next := 1 }
    pins := { supplySettled := true, nrst := .high, faults := Vector.replicate 4 .low, rail := 0 }
    choices := []
    picks := 0 }

end Sys2Proof.Machine
end

