-- ==== Sys2Proof/Machine/Ops.lean ====
section
/-! DEFINITION. The named operations over the registers of the part: reading and writing one of several like things,
the due rule of the Time Base (R2), and the order of things that come together (log 4). -/

namespace Sys2Proof.Machine

/-! ## One of several like things -/

/-- Reads one place. -/
def rd {α : Type} {n : Nat} (v : Vector α n) (i : Fin n) : α := v[i.val]

/-- Writes one place. -/
def wr {α : Type} {n : Nat} (v : Vector α n) (i : Fin n) (x : α) : Vector α n := v.set i.val x

/-- An output's profile. -/
def State.profile (s : State) (o : Output) : Profile := rd s.profiles o
/-- A channel's record. -/
def State.chan (s : State) (o : Output) : Channel := rd s.channels o
/-- An output's shot queue, head first. -/
def State.queue (s : State) (o : Output) : List Entry := rd s.queues o
/-- An output's pass. -/
def State.pass (s : State) (o : Output) : Option Pass := rd s.cam.passes o
/-- An interlock set. -/
def State.iset (s : State) (i : SetId) : ISet := rd s.isets i
/-- A fault input. -/
def State.faultIn (s : State) (i : InputId) : FaultIn := rd s.faultIns i
/-- A trip group. -/
def State.group (s : State) (g : GroupId) : TripGroup := rd s.groups g

/-- Writes an output's profile. -/
def State.setProfile (s : State) (o : Output) (p : Profile) : State := { s with profiles := wr s.profiles o p }
/-- Writes a channel's record. -/
def State.setChan (s : State) (o : Output) (c : Channel) : State := { s with channels := wr s.channels o c }
/-- Writes an output's shot queue. -/
def State.setQueue (s : State) (o : Output) (q : List Entry) : State := { s with queues := wr s.queues o q }
/-- Writes an output's pass. -/
def State.setPass (s : State) (o : Output) (p : Option Pass) : State :=
  { s with cam := { s.cam with passes := wr s.cam.passes o p } }
/-- Writes an interlock set. -/
def State.setIset (s : State) (i : SetId) (x : ISet) : State := { s with isets := wr s.isets i x }
/-- Writes a fault input. -/
def State.setFaultIn (s : State) (i : InputId) (f : FaultIn) : State := { s with faultIns := wr s.faultIns i f }
/-- Writes a trip group. -/
def State.setGroup (s : State) (g : GroupId) (x : TripGroup) : State := { s with groups := wr s.groups g x }

/-! ## Times (R2) -/

/-- A time is due when now minus it, modulo 2^32, is less than 2^31. -/
def due (now t : Time) : Bool := (now - t).toNat < 2 ^ 31

/-- A running timer whose expiry is due. -/
def timerDue (now : Time) : Option Time → Bool
  | some e => due now e
  | none => false

/-- The time a number of us after another. -/
def after (t : Time) (us : Nat) : Time := t + BitVec.ofNat 32 us

/-- A number of ms in us. -/
def msToUs (ms : Nat) : Nat := ms * 1000

/-- How far a time lies from now, as a signed number (R43). -/
def fromNow (now t : Time) : Int := (t - now).toInt

/-- The time left on a running timer, none when it is stopped or its expiry has come (R40). -/
def timeLeft (now : Time) : Option Time → Option Time
  | some e => if due now e then none else some (e - now)
  | none => none

/-! ## The order of things that come together (log 4) -/

/-- The next pick: the world's next choice, or a free value when none is laid down. -/
def State.takePick (s : State) : Nat × State :=
  match s.choices with
  | c :: cs => (c, { s with choices := cs })
  | [] => (Config.freePick s.picks, { s with picks := s.picks + 1 })

/-- Puts a list into an order the world takes: picks one of those left, again and again. One thing alone needs no
pick. The first argument bounds the number of picks. -/
def arrangeN {α : Type} : Nat → List α → State → List α × State
  | 0, xs, s => (xs, s)
  | _ + 1, [], s => ([], s)
  | _ + 1, [x], s => ([x], s)
  | n + 1, x :: y :: rest, s =>
    let xs := x :: y :: rest
    let (k, s1) := s.takePick
    let i := k % xs.length
    let (order, s2) := arrangeN n (xs.eraseIdx i) s1
    (xs.getD i x :: order, s2)

/-- An order of the list that the world takes. -/
def arrange {α : Type} (xs : List α) (s : State) : List α × State := arrangeN xs.length xs s

/-- Which of two things that come together is taken first, the first or the second: the world's pick. -/
def State.firstOfTwo (s : State) : Bool × State := (s.takePick.1 % 2 = 0, s.takePick.2)

/-! ## Counts -/

/-- Places of the pool taken (R41). -/
def State.poolUse (s : State) : Nat := (allOutputs.map fun o => (s.queue o).length).sum

/-- The slots of a table, in ascending order. -/
def allSlots : List Slot := List.finRange 96

/-- The windows of a table, with their slots, in ascending order of slot. -/
def CamTable.windows (t : CamTable) : List (Slot × Window) :=
  allSlots.filterMap fun i => (rd t i).map fun w => (i, w)

/-- How many windows a table holds. -/
def CamTable.count (t : CamTable) : Nat := t.windows.length

/-- Adds an output to a collection kept in ascending order. -/
def insertOutput (o : Output) : List Output → List Output
  | [] => [o]
  | x :: xs => if o < x then o :: x :: xs else if o = x then x :: xs else x :: insertOutput o xs

/-! ## Resets (R137) -/

/-- Whether a reset lasts: the supply has not settled, or nRST is low. -/
def State.inReset (s : State) : Bool := !s.pins.supplySettled || s.pins.nrst = .low

end Sys2Proof.Machine
end

