-- ==== Sys2Proof/Machine/Flags.lean ====
section
/-! DEFINITION. The conditions the part reports as bits: the trip sources and their masks (R108, R172), a group's
condition, a channel's inhibit (R21), the output pins (R22) and the FLAGS byte (R169). -/

namespace Sys2Proof.Machine

/-! ## Trip sources -/

/-- A fault input's source is active while its filtered level equals its active level (R111). -/
def FaultIn.active (f : FaultIn) : Bool := f.filtered = f.activeLevel

/-- A bit as a number. -/
def bit (b : Bool) : Nat := if b then 1 else 0

/-- The source mask of four fault inputs, LINK, RAIL_LOW, RAIL_HIGH and HOST (R172). -/
def sourceMask (f0 f1 f2 f3 link low high host : Bool) : Byte :=
  byteOf (bit f0 + 2 * bit f1 + 4 * bit f2 + 8 * bit f3 + 16 * bit link + 32 * bit low + 64 * bit high + 128 * bit host)

/-- The source mask bit of a fault input. -/
def inputMask (i : InputId) : Byte := byteOf (2 ^ i.val)

/-- The source mask bit of LINK. -/
def linkMask : Byte := 0x10

/-- The active shared sources, the HOST bit clear (R108). -/
def State.sharedSources (s : State) : Byte :=
  sourceMask (s.faultIn 0).active (s.faultIn 1).active (s.faultIn 2).active (s.faultIn 3).active
    s.link.linkActive s.rail.lowActive s.rail.highActive false

/-- The configured sources of a group that are active. -/
def State.activeConfigured (s : State) (g : GroupId) : Byte := (s.group g).sources &&& s.sharedSources

/-- The watched sources of a group that are active, HOST included (R118). -/
def State.activeWatched (s : State) (g : GroupId) : Byte :=
  s.activeConfigured g ||| (if (s.group g).hostTrip then 0x80 else 0)

/-- A group is clear when every watched source is inactive (R118). -/
def State.groupClear (s : State) (g : GroupId) : Bool := s.activeWatched g = 0

/-- HOST as STATUS reports it: active while any group's host-trip flag is set (R108). -/
def State.anyHostTrip (s : State) : Bool := allGroups.any fun g => (s.group g).hostTrip

/-- The source states of a STATUS reply (R140). -/
def State.statusSources (s : State) : Byte := s.sharedSources ||| (if s.anyHostTrip then 0x80 else 0)

/-- Whether any group is TRIPPED or RELEASING (R119). -/
def State.anyGroupNotNormal (s : State) : Bool := allGroups.any fun g => (s.group g).state ≠ .normal

/-! ## Inhibit (R21) -/

/-- Whether a profile names a group. -/
def profileNames (p : Profile) (g : GroupId) : Bool := p.groups.getLsbD g.val

/-- Whether a trip group of the output is not NORMAL. -/
def State.heldByGroup (s : State) (o : Output) : Bool :=
  allGroups.any fun g => profileNames (s.profile o) g && (s.group g).state ≠ .normal

/-- Whether the inhibit condition of an output's channel holds: the mode is not RUN, or a group holds it. -/
def State.inhibitCondition (s : State) (o : Output) : Bool := s.mode ≠ .run || s.heldByGroup o

/-- A group's members, in ascending order (R118). -/
def State.groupMembers (s : State) (g : GroupId) : List Output := allOutputs.filter fun o => profileNames (s.profile o) g

/-- A set's members, in ascending order (R92). -/
def State.setMembers (s : State) (i : SetId) : List Output := allOutputs.filter fun o => (s.profile o).iset = some i

/-- The outputs START and RESUME report as held (R131). -/
def State.heldOutputs (s : State) : List Output := allOutputs.filter fun o => s.heldByGroup o

/-! ## Output pins (R22) -/

/-- Whether a channel drives. -/
def Channel.driving (c : Channel) : Bool := c.state = .boost || c.state = .hold

/-- Whether a channel's pin is at its active level in the half us that begins `half` halves after now: BOOST without
interruption, HOLD for the hold duty's share of its 50 us period (half a us per percent). -/
def Channel.pinActive (c : Channel) (duty : Nat) (half : Nat) : Bool :=
  match c.state with
  | .boost => true
  | .hold => (2 * c.holdPhase + half) % (2 * Config.holdPeriod) < duty
  | _ => false

/-- The active level of a polarity. -/
def activeLevelOf : Polarity → Level
  | .highActive => .high
  | .lowActive => .low

/-- The level of an output's pin; low while a reset lasts. -/
def State.pinLevel (s : State) (o : Output) (half : Nat) : Level :=
  if s.inReset then .low
  else
    let active := activeLevelOf (s.profile o).polarity
    if (s.chan o).pinActive (s.profile o).duty half then active else active.other

/-! ## FLAGS (R169) -/

/-- The code of a mode. -/
def modeCode : Mode → Nat
  | .idle => 0
  | .run => 1
  | .paused => 2

/-- The FLAGS byte of a frame begun in this state, the frame having left its queue (R155). -/
def State.flags (s : State) (noticeFrame : Bool) : Byte :=
  byteOf (modeCode s.mode + 4 * bit s.anyGroupNotNormal + 8 * bit (s.tracker.state = .synced) +
    16 * bit (!s.notices.waiting.isEmpty) + 32 * bit s.cam.commitPending + 128 * bit noticeFrame)

end Sys2Proof.Machine
end

