-- ==== Sys2Proof/Machine/Operands.lean ====
section
/-! DEFINITION. The bytes of replies and notices: the common encodings of R172, the reply bodies of R175 and R176,
the notice bodies of R177, the result codes of R178, and an outgoing frame on the line (R167, R168, R142). -/

namespace Sys2Proof.Machine

/-! ## Codes (R172, R178) -/

/-- The code of a result (R178). -/
def resultByte : Result → Byte
  | .ok => 0x00
  | .unknownKind => 0x01
  | .badLength => 0x02
  | .badField => 0x03
  | .wrongMode => 0x04
  | .inboxFull => 0x05
  | .poolFull => 0x06
  | .queueFull => 0x07
  | .overlap => 0x08
  | .horizon => 0x09
  | .tooLate => 0x0A
  | .tooLong => 0x0B
  | .wrongSource => 0x0C
  | .tableFull => 0x0D
  | .noSuchSlot => 0x0E
  | .commitPending => 0x0F
  | .notPending => 0x10
  | .inUse => 0x11
  | .sourcesActive => 0x12
  | .inhibited => 0x13
  | .windowOverlap => 0x14
  | .notTripped => 0x15
  | .noAngle => 0x16

/-- The code of a reset cause. -/
def causeByte : ResetCause → Byte
  | .power => 0
  | .line => 1
  | .order => 2

/-- The code of a tracker state. -/
def trackerByte : TrackerState → Byte
  | .off => 0
  | .unsynced => 1
  | .verifying => 2
  | .synced => 3
  | .stalled => 4

/-- The code of a tracker cause. -/
def trackerCauseByte : TrackerCause → Byte
  | .config => 0
  | .firstIndex => 1
  | .verified => 2
  | .indexMissing => 3
  | .syncLost => 4
  | .stall => 5
  | .motion => 6

/-- The code of a channel state. -/
def channelByte : ChannelState → Byte
  | .off => 0
  | .recover => 1
  | .queued => 2
  | .boost => 3
  | .hold => 4
  | .overtime => 5
  | .inhibited => 6

/-- The code of an entry state as reported. -/
def entryByte : EntryReport → Byte
  | .waiting => 0
  | .late => 1
  | .deferred => 2
  | .active => 3
  | .deferExpired => 4

/-- The state an entry reports. -/
def EntryState.reportState : EntryState → EntryReport
  | .waiting => .waiting
  | .late => .late
  | .deferred => .deferred
  | .active _ => .active

/-- The code of a group state. -/
def groupByte : GroupState → Byte
  | .normal => 0
  | .tripped => 1
  | .releasing => 2

/-- The code of a piece. -/
def pieceByte : Piece → Byte
  | .plain => 0
  | .head => 1
  | .tail => 2

/-- A condition as a byte: 1 or 0. -/
def boolByte (b : Bool) : Byte := if b then 1 else 0

/-- An optional time: presence byte, then the time, 0 when absent. -/
def optTimeBytes : Option Time → List Byte
  | some t => 1 :: bytes32 t
  | none => 0 :: bytes32 0

/-- An origin: a byte, then the tag or the slot or 0. -/
def originBytes : Option Origin → List Byte
  | none => [0, 0, 0]
  | some (.shot tag) => 1 :: bytes16 tag
  | some (.cam slot) => 2 :: nat16 slot.val
  | some .manual => [3, 0, 0]

/-- An output mask: bit n for On. -/
def outputMask (os : List Output) : Word16 := os.foldl (fun m o => m ||| BitVec.ofNat 16 (2 ^ o.val)) 0

/-! ## Reply bodies (R175, R176) -/

/-- One QUEUE_READ entry: 18 bytes. -/
def entryBytes (e : Entry) : List Byte :=
  bytes16 e.tag ++ bytes32 e.start ++ nat32 e.duration ++ nat16 e.grace ++
    [boolByte e.report, entryByte e.state.reportState] ++
    bytes32 (match e.state with | .active d => d | _ => 0)

/-- The fields of a STATUS reply after the result byte. -/
def statusBytes (r : StatusReport) : List Byte :=
  [byteOf (modeCode r.mode), causeByte r.resetCause, trackerByte r.tracker] ++ r.groups.map groupByte ++
    r.sources :: nat16 r.rail ++ byteOf r.poolUse :: byteOf r.noticeFill :: bytes16 r.nextNotice ++ bytes32 r.now

/-- The fields of a CHANNEL reply after the result byte. -/
def channelBytes (r : ChannelReport) : List Byte :=
  channelByte r.state :: originBytes r.demand ++ originBytes r.remembered ++ boolByte r.manualDemand ::
    optTimeBytes r.driveStart ++ optTimeBytes r.lastStop ++ optTimeBytes r.boost ++ optTimeBytes r.maxOn ++
    optTimeBytes r.recover ++ optTimeBytes r.defer ++ [byteOf r.queueLength, isetByte r.iset]

/-- The fields of a CAM_READ reply after the result byte. -/
def camReadBytes (t : TableSel) (slot : Slot) (w : Window) (pass : Option Pass) : List Byte :=
  t.byte :: byteOf slot.val :: byteOf w.output.val :: nat16 w.onAngle ++ nat16 w.offAngle ++
    [byteOf w.divisor, byteOf w.phase] ++
    match pass with
    | some p => 1 :: pieceByte p.piece :: bytes32 p.entryCycle
    | none => 0 :: 0 :: bytes32 0

/-- The fields of a present conflict record. -/
def conflictBytes (r : ConflictRecord) : List Byte :=
  byteOf r.output.val :: byteOf r.set.val :: bytes32 r.time ++ bytes16 (outputMask r.occupants) ++
    byteOf r.grantLength :: originBytes (some r.origin) ++ [boolByte r.later]

/-- The fields of a TRIP_READ reply after the result byte. -/
def tripReadBytes (r : TripReport) : List Byte :=
  [groupByte r.state, r.sources, r.activeSources, boolByte r.hostTrip, r.releaseMode.byte] ++ nat16 r.restoreDelay ++
    r.policy.byte :: bytes32 r.timeLeft ++ bytes16 (outputMask r.members)

/-- The result code of a reply. -/
def ReplyBody.result : ReplyBody → Result
  | .code r => r
  | .overlap _ _ => .overlap
  | .shots r _ _ _ => r
  | .windowOverlap _ => .windowOverlap
  | .sourcesActive _ => .sourcesActive
  | _ => .ok

/-- What follows the result byte. -/
def ReplyBody.fields : ReplyBody → List Byte
  | .code _ => []
  | .ident => bytes16 0x55A7 ++ bytes16 0xD016 ++ [0x01, 16, 192, 48, 96, 8, 4, 32]
  | .status r => statusBytes r
  | .time now st pos cycle => bytes32 now ++ trackerByte st :: nat16 pos ++ bytes32 cycle
  | .setLink b t => b.byte :: nat16 t
  | .held os => bytes16 (outputMask os)
  | .purged n => [byteOf n]
  | .manual st p => [channelByte st, boolByte p]
  | .channel r => channelBytes r
  | .shot start st len pool => bytes32 start ++ [entryByte st, byteOf len, byteOf pool]
  | .overlap tag start => bytes16 tag ++ bytes32 start
  | .shots r accepted index met =>
    [byteOf accepted, byteOf index, resultByte r] ++
      match met with
      | some (tag, start) => bytes16 tag ++ bytes32 start
      | none => []
  | .cancelled n => [byteOf n]
  | .queue len first es => [byteOf len, byteOf first, byteOf es.length] ++ es.flatMap entryBytes
  | .camPut slot => [byteOf slot.val]
  | .windowOverlap slot => [byteOf slot.val]
  | .windows n => [byteOf n]
  | .commit pending n => [boolByte pending, byteOf n]
  | .camRead t slot w pass => camReadBytes t slot w pass
  | .iset cap lim members occ grants =>
    byteOf cap :: nat16 lim ++ bytes16 (outputMask members) ++ bytes16 (outputMask occ) ++
      byteOf grants.length :: grants.flatMap fun g => byteOf g.1.val :: bytes32 g.2
  | .conflict none => [0]
  | .conflict (some r) => 1 :: conflictBytes r
  | .trip gs => gs.map groupByte
  | .groupState st => [groupByte st]
  | .sourcesActive m => [m]
  | .tripRead r => tripReadBytes r

/-- A reply body as sent: the result code, then the fields. -/
def ReplyBody.bytes (b : ReplyBody) : List Byte := resultByte b.result :: b.fields

/-! ## Notice bodies (R177) -/

/-- The KIND of a notice. -/
def NoticeBody.kind : NoticeBody → Byte
  | .started _ => 0xC0
  | .shotEnd _ _ _ _ _ _ => 0xC1
  | .shotDropped _ _ _ _ _ _ => 0xC2
  | .camSkipped _ _ _ _ _ => 0xC3
  | .manualDropped _ _ _ => 0xC4
  | .overtime _ _ _ _ => 0xC5
  | .tracker _ _ _ => 0xC6
  | .camCommitted _ _ _ => 0xC7
  | .groupTripped _ _ _ _ => 0xC8
  | .groupReleased _ _ _ => 0xC9
  | .conflict _ _ _ _ => 0xCA

/-- The code of a SHOT_END result. -/
def shotEndByte : ShotEnd → Byte
  | .done => 0
  | .cancelled => 1
  | .aborted => 2

/-- The code of a SHOT_DROPPED result. -/
def shotDropByte : ShotDrop → Byte
  | .lateDropped => 0
  | .deferExpired => 1

/-- The code of a CAM_SKIPPED reason. -/
def skipByte : SkipReason → Byte
  | .deferExpired => 0
  | .unserved => 1

/-- The kind and cause bytes of a CAM_COMMITTED notice: ORDER is IMMEDIATE, the others DEFERRED (R90). -/
def commitBytes : CommitCause → List Byte
  | .order => [0, 0]
  | .index => [1, 1]
  | .tracker => [1, 2]
  | .mode => [1, 3]

/-- The code of a release. -/
def releaseByte : ReleaseHow → Byte
  | .restored => 0
  | .order => 1

/-- What follows the notice number. -/
def NoticeBody.fields : NoticeBody → List Byte
  | .started c => [causeByte c]
  | .shotEnd o tag r start d t =>
    byteOf o.val :: bytes16 tag ++ shotEndByte r :: bytes32 start ++ optTimeBytes d ++ bytes32 t
  | .shotDropped o tag r start grace t =>
    byteOf o.val :: bytes16 tag ++ shotDropByte r :: bytes32 start ++ nat16 grace ++ bytes32 t
  | .camSkipped o slot c r t => byteOf o.val :: byteOf slot.val :: bytes32 c ++ skipByte r :: bytes32 t
  | .manualDropped o set t => byteOf o.val :: isetByte set :: bytes32 t
  | .overtime o origin d t => byteOf o.val :: originBytes origin ++ bytes32 (d.getD 0) ++ bytes32 t
  | .tracker old new c => [trackerByte old, trackerByte new, trackerCauseByte c]
  | .camCommitted c cycle n => commitBytes c ++ bytes32 cycle ++ [byteOf n]
  | .groupTripped g m n t => byteOf g.val :: m :: byteOf n :: bytes32 t
  | .groupReleased g how t => byteOf g.val :: releaseByte how :: bytes32 t
  | .conflict o set t origin => byteOf o.val :: byteOf set.val :: bytes32 t ++ originBytes (some origin)

/-- A notice body as sent: the notice number, then the fields. -/
def Notice.bytes (n : Notice) : List Byte := bytes16 n.number ++ n.body.fields

/-! ## Outgoing frames (R167) -/

/-- LEN to the last body byte: the span of the CRC, FLAGS included. -/
def OutFrame.span (f : OutFrame) : List Byte := byteOf (f.body.length + 3) :: f.seq :: f.kind :: f.flags :: f.body

/-- An outgoing frame as it stands on the line. -/
def OutFrame.bytes (f : OutFrame) : List Byte := startByte :: f.span ++ bytes16 (crc16 f.span)

/-- The levels of one byte on the line: a low start bit, eight data bits least significant first, a high stop bit
(R142). -/
def lineBits (b : Byte) : List Level :=
  .low :: ((List.range 8).map fun i => if b.getLsbD i then .high else .low) ++ [.high]

/-- How many millionths of a bit a frame is, on the line: ten bit times a byte (R155). -/
def OutFrame.lineTime (f : OutFrame) : Nat := 10 * (f.body.length + 7) * 1000000

/-- The level of TXD: high at rest, else the bit of the frame being sent (R142). -/
def State.txdLevel (s : State) : Level :=
  match s.link.tx with
  | none => .high
  | some t => (t.frame.bytes.flatMap lineBits).getD (t.progress / 1000000) .high

end Sys2Proof.Machine
end

