-- ==== Sys2Proof/Machine/Transmit.lean ====
section
/-! DEFINITION. The transmit arbiter (R154, R155), the posting of notices (R162), the placing of replies (R153), and
the taking of an order by the Order Decoder (R152, R171, R151). -/

namespace Sys2Proof.Machine

/-! ## The transmit arbiter -/

/-- The frame of a reply, with the FLAGS given (R167, R169). -/
def replyFrame (r : Reply) (flags : Byte) : OutFrame :=
  { notice := false, seq := r.seq, kind := r.kind, flags := flags, body := r.body.bytes }

/-- The frame of a notice, with the FLAGS given: SEQ 0, the notice's own KIND (R163). -/
def noticeFrame (n : Notice) (flags : Byte) : OutFrame :=
  { notice := true, seq := 0, kind := n.body.kind, flags := flags, body := n.bytes }

/-- A frame begins: it has left its queue, and nothing of it has gone. -/
def State.beginFrame (s : State) (f : OutFrame) (bound : Bound) : State :=
  { s with link := { s.link with tx := some { frame := f, bound := bound, progress := 0 } } }

/-- The oldest reply leaves the reply queue and begins; the streak count becomes the one given. -/
def State.beginReply (s : State) (r : Reply) (rest : List Reply) (streak : Nat) : State :=
  let s1 : State := { s with link := { s.link with replies := rest, streak := streak } }
  s1.beginFrame (replyFrame r (s1.flags false)) r.bound

/-- The oldest notice leaves the waiting list and begins; the streak count becomes 0. -/
def State.beginNotice (s : State) (n : Notice) (rest : List Notice) : State :=
  let s1 : State := { s with notices := { s.notices with waiting := rest }, link := { s.link with streak := 0 } }
  s1.beginFrame (noticeFrame n (s1.flags true)) .nothing

/-- The arbiter's choice while the transmitter is idle (R154). -/
def State.choose (s : State) : State :=
  match s.link.replies, s.notices.waiting with
  | r :: rs, [] => s.beginReply r rs 0
  | r :: rs, n :: ns =>
    if s.link.streak < Config.streakLimit then s.beginReply r rs (s.link.streak + 1) else s.beginNotice n ns
  | [], n :: ns => s.beginNotice n ns
  | [], [] => s

/-- The arbiter chooses the next frame whenever the transmitter is free. -/
def State.pump (s : State) : State := if s.link.tx.isSome then s else s.choose

/-! ## Notices and replies -/

/-- Posts a notice (R162): it takes the next number; a list of 32 discards it; an idle transmitter begins it. -/
def State.post (s : State) (body : NoticeBody) : State :=
  let waiting :=
    if s.notices.waiting.length < Config.noticePlaces then s.notices.waiting ++ [⟨s.notices.next, body⟩]
    else s.notices.waiting
  State.pump { s with notices := { waiting := waiting, next := s.notices.next + 1 } }

/-- Places a reply at the tail of the reply queue, if it has room (R153); an idle transmitter begins it. -/
def State.placeReply (s : State) (r : Reply) : State :=
  if s.link.replies.length < Config.replyFrames then
    State.pump { s with link := { s.link with replies := s.link.replies ++ [r] } }
  else s

/-! ## Taking an order -/

/-- The KIND of the reply to a KIND (R170). -/
def replyKind (kind : Byte) : Byte := kind + 0x80

/-- The decoder may take an order: no reset lasts, no RESET has halted it (R139), and the reply queue has room
(R152). -/
def State.decoderReady (s : State) : Bool :=
  !s.inReset && !s.link.halted && s.link.replies.length < Config.replyFrames

/-- This frame is the decoder's next order: the oldest of the inbox, or one that reaches an empty inbox (log 1). -/
def State.takes (s : State) (f : OrderFrame) : Bool :=
  s.decoderReady && (s.link.inbox.isEmpty || s.link.inbox.head? = some f)

/-- The reply-cache entry of an executed order with SEQ not 0; a full cache loses its oldest entry (R151). -/
def State.cacheOrder (s : State) (f : OrderFrame) (body : ReplyBody) : State :=
  if f.seq = 0 then s
  else
    let kept := if s.link.cache.length < Config.cacheEntries then s.link.cache else s.link.cache.tail
    { s with link := { s.link with cache := kept ++ [⟨f.seq, f.crc, replyKind f.kind, body⟩] } }

/-- The frame leaves the inbox. -/
def State.leaveInbox (s : State) (f : OrderFrame) : State :=
  if s.link.inbox.head? = some f then { s with link := { s.link with inbox := s.link.inbox.tail } } else s

/-- The end of an order's execution (R152): the reply is placed, the cache entry made, the frame leaves the inbox. -/
def State.answer (s : State) (f : OrderFrame) (body : ReplyBody) (bound : Bound) : State :=
  ((s.placeReply ⟨f.seq, replyKind f.kind, body, bound⟩).cacheOrder f body).leaveInbox f

/-- What an owner answers: the state it leaves, the reply's body, and what the reply's last byte sets off. -/
structure Answer where
  state : State
  body : ReplyBody
  bound : Bound := .nothing
  deriving DecidableEq, Repr

/-- An owner's refusal, which changes nothing. -/
def refuse (s : State) (r : Result) : Answer := { state := s, body := .code r }

/-- The taking of an order (R152, R171): the decoder's checks, the owner, the reply. Where the decoder does not take
this frame now, nothing happens (log 1). -/
def takeOrder {α : Type} (f : OrderFrame) (decode : List Byte → Except Result α) (owner : α → State → Answer)
    (s : State) : State :=
  if s.takes f then
    match decode f.body with
    | .error r => s.answer f (.code r) .nothing
    | .ok a =>
      let x := owner a s
      x.state.answer f x.body x.bound
  else s

/-- An order's meaning: it always answers a next state. -/
def order {α : Type} (kind : Byte) (decode : List Byte → Except Result α) (owner : α → State → Answer)
    (seq : Byte) (body : List Byte) (s : State) : Host.Outcome State Fault Refusal :=
  .next (takeOrder ⟨seq, kind, body⟩ decode owner s)

/-- An event's meaning: it always answers a next state, and no event of any block is taken while a reset lasts
(R137). -/
def event (f : State → State) (s : State) : Host.Outcome State Fault Refusal :=
  .next (if s.inReset then s else f s)

end Sys2Proof.Machine
end

