-- ==== Sys2Proof/Machine/Interlock.lean ====
section
/-! DEFINITION. The Interlock Unit (chapter 5): room, withdrawal, the conflict record, and its four orders. What a
grant does to a channel is in Drive.lean. -/

namespace Sys2Proof.Machine

/-- A set has room when it has fewer occupants than its capacity (R91). -/
def ISet.room (i : ISet) : Bool := i.occupants.length < i.capacity

/-- An output becomes an occupant (R94, R96). -/
def State.occupy (s : State) (i : SetId) (o : Output) : State :=
  s.setIset i { s.iset i with occupants := insertOutput o (s.iset i).occupants }

/-- An output joins the tail of the grant list (R94). -/
def State.joinGrants (s : State) (i : SetId) (o : Output) : State :=
  s.setIset i { s.iset i with grants := (s.iset i).grants ++ [o] }

/-- An output leaves the grant list, wherever it stands; the entries behind it close up (R97, R98). -/
def State.leaveGrants (s : State) (i : SetId) (o : Output) : State :=
  s.setIset i { s.iset i with grants := (s.iset i).grants.erase o }

/-- A channel withdraws from its set's grant list, if its profile names a set (R97). -/
def State.withdraw (s : State) (o : Output) : State :=
  match (s.profile o).iset with
  | some i => s.leaveGrants i o
  | none => s

/-- Captures a conflict (R100, R101): the set's occupants and grant list as they stand, under the conflict policy. -/
def State.captureConflict (s : State) (o : Output) (i : SetId) (origin : Origin) : State :=
  let r : ConflictRecord :=
    { output := o, set := i, time := s.now, occupants := (s.iset i).occupants,
      grantLength := (s.iset i).grants.length, origin := origin, later := false }
  match s.conflict with
  | none => State.post { s with conflict := some r } (.conflict o i s.now origin)
  | some old =>
    match s.conflictPolicy with
    | .keepFirst => { s with conflict := some { old with later := true } }
    | .keepLatest => { s with conflict := some { r with later := true } }

/-! ## Orders -/

/-- SET_ISET (R93): in IDLE, the capacity and the defer limit. -/
def ownSetIset (f : IsetFields) (s : State) : Answer :=
  if s.mode ≠ .idle then refuse s .wrongMode
  else
    { state := s.setIset f.set { s.iset f.set with capacity := f.capacity, deferLimit := f.deferLimit }
      body := .code .ok }

/-- SET_ISET. -/
def execSetIset (seq : Byte) (body : List Byte) (s : State) : Host.Outcome State Fault Refusal :=
  order 0x50 decodeSetIset ownSetIset seq body s

/-- ISET_READ (R107): the set as it stands; the time left of a grant-list entry is its channel's defer timer's. -/
def ownIsetRead (i : SetId) (s : State) : Answer :=
  { state := s
    body := .iset (s.iset i).capacity (s.iset i).deferLimit (s.setMembers i) (s.iset i).occupants
      ((s.iset i).grants.map fun o => (o, (timeLeft s.now (s.chan o).deferTimer).getD 0)) }

/-- ISET_READ. -/
def execIsetRead (seq : Byte) (body : List Byte) (s : State) : Host.Outcome State Fault Refusal :=
  order 0x51 decodeIsetRead ownIsetRead seq body s

/-- SET_CONFLICT (R102): the policy alone. -/
def ownSetConflict (p : ConflictPolicy) (s : State) : Answer :=
  { state := { s with conflictPolicy := p }, body := .code .ok }

/-- SET_CONFLICT. -/
def execSetConflict (seq : Byte) (body : List Byte) (s : State) : Host.Outcome State Fault Refusal :=
  order 0x52 decodeSetConflict ownSetConflict seq body s

/-- CONFLICT_READ (R103): the record as it stood; then it is absent. -/
def ownConflictRead (_ : Unit) (s : State) : Answer :=
  { state := { s with conflict := none }, body := .conflict s.conflict }

/-- CONFLICT_READ. -/
def execConflictRead (seq : Byte) (body : List Byte) (s : State) : Host.Outcome State Fault Refusal :=
  order 0x53 decodeEmpty ownConflictRead seq body s

end Sys2Proof.Machine
end

