-- ==== Sys2Proof/Machine/Drive.lean ====
section
/-! DEFINITION. A channel's drive: its beginning, from OFF or by a grant, and the place it holds in its interlock set
(R24 to R26, R30, R94 to R96). -/

namespace Sys2Proof.Machine

/-- The Shot Scheduler takes the report drive begun of a grant: a DEFERRED head becomes ACTIVE, its drive start now
(R53). Where the entry served has gone already, as between the two steps of a CANCEL (R58), the report changes no entry.
The other origins do nothing (R88); a head that drives at its very rise becomes ACTIVE where it fires (R52). -/
def State.reportBegun (s : State) (o : Output) : Option Origin → State
  | some (.shot _) =>
    match s.queue o with
    | e :: rest => if e.state = .deferred then s.setQueue o ({ e with state := .active s.now } :: rest) else s
    | [] => s
  | _ => s

/-- Drive begins (R25): the drive start, BOOST or HOLD, the boost and max-on timers; a grant has stopped the defer
timer (R26). -/
def State.beginDrive (s : State) (o : Output) : State :=
  let p := s.profile o
  let c := s.chan o
  let s1 := s.setChan o
    { c with
      state := if p.boost = 0 then .hold else .boost
      driveStart := some s.now
      boostTimer := if p.boost = 0 then none else some (after s.now p.boost)
      maxOnTimer := if p.maxOn = 0 then none else some (after s.now (msToUs p.maxOn))
      deferTimer := none
      holdPhase := 0 }
  s1.reportBegun o c.demand

/-- A grant (R96): the head of the grant list leaves it, becomes an occupant, and its channel drives. -/
def State.grantNext (s : State) (i : SetId) : State :=
  match (s.iset i).grants with
  | [] => s
  | h :: rest => ((s.setIset i { s.iset i with grants := rest }).occupy i h).beginDrive h

/-- A release (R95): the output leaves the occupants of its set, and the head of the grant list, if there is one, is
granted the place. -/
def State.releasePlace (s : State) (o : Output) : State :=
  match (s.profile o).iset with
  | none => s
  | some i =>
    (s.setIset i { s.iset i with occupants := (s.iset i).occupants.erase o }).grantNext i

/-- What became of a demand rise in OFF (R24). -/
inductive Rise
  | driven
  | queued
  | refused
  deriving DecidableEq, Repr

/-- A demand rise in OFF (R24, R94): drive at once, a wait in the grant list, or a refusal with its conflict. -/
def State.riseFromOff (s : State) (o : Output) (origin : Origin) : Rise × State :=
  let c := s.chan o
  let s1 := s.setChan o { c with demand := some origin }
  match (s.profile o).iset with
  | none => (.driven, s1.beginDrive o)
  | some i =>
    if (s.iset i).room then (.driven, (s1.occupy i o).beginDrive o)
    else if (s.iset i).deferLimit ≠ 0 then
      (.queued, (s1.joinGrants i o).setChan o
        { c with demand := some origin, state := .queued, deferTimer := some (after s.now (s.iset i).deferLimit) })
    else (.refused, (s1.captureConflict o i origin).setChan o { c with demand := none })

/-- What every stop does to a channel's record (R30, R31, R35): the boost and max-on timers stop, the last stop is
now, and the recover timer runs for the min off-time (one of 0 expires as it starts, R2). -/
def Channel.stopped (c : Channel) (now : Time) (minOff : Nat) : Channel :=
  { c with
    boostTimer := none
    maxOnTimer := none
    lastStop := some now
    recoverTimer := if minOff = 0 then none else some (after now minOff) }

/-- A stop (R30, R31, R35): the record is stopped and further changed as the caller says, and the place released. -/
def State.stopDrive (s : State) (o : Output) (f : Channel → Channel) : State :=
  (s.setChan o (f ((s.chan o).stopped s.now (s.profile o).minOff))).releasePlace o

end Sys2Proof.Machine
end

