-- ==== Sys2Proof/Machine/Scheduler.lean ====
section
/-! DEFINITION. The Shot Scheduler's own work (chapter 3): entry times, the look at the head, firing, removal, purge.
Its orders and events are in Shots.lean. -/

namespace Sys2Proof.Machine

/-- An entry's drop time: one microsecond after its start plus its grace (R42). -/
def Entry.dropTime (e : Entry) : Time := after e.start (e.grace + 1)

/-- An entry's drive start, in ACTIVE (R42). -/
def Entry.driveStart (e : Entry) : Option Time :=
  match e.state with
  | .active d => some d
  | _ => none

/-- Whether an entry is DEFERRED or ACTIVE: the channel serves it. -/
def Entry.served (e : Entry) : Bool :=
  match e.state with
  | .deferred | .active _ => true
  | _ => false

/-- Posts SHOT_END for an entry whose report flag is set (R64). -/
def State.postShotEnd (s : State) (o : Output) (e : Entry) (r : ShotEnd) : State :=
  if e.report then s.post (.shotEnd o e.tag r e.start e.driveStart s.now) else s

/-- Posts SHOT_DROPPED for an entry, whatever its report flag (R65). -/
def State.postShotDropped (s : State) (o : Output) (e : Entry) (r : ShotDrop) : State :=
  s.post (.shotDropped o e.tag r e.start e.grace s.now)

/-- A channel is free when it stands in OFF with no demand (R50). -/
def State.channelFree (s : State) (o : Output) : Bool := (s.chan o).state = .off && (s.chan o).demand.isNone

/-- Fires the head (R52): a demand rise with the entry's tag, and what became of it decides the entry. It becomes ACTIVE
with its drive start now, or DEFERRED, or is dropped with DEFER_EXPIRED where a full set with defer limit 0 refuses it
(R54); the first part says whether it was dropped. -/
def State.fireHead (s : State) (o : Output) (e : Entry) (rest : List Entry) : Bool × State :=
  match s.riseFromOff o (.shot e.tag) with
  | (.driven, s1) => (false, s1.setQueue o ({ e with state := .active s.now } :: rest))
  | (.queued, s1) => (false, s1.setQueue o ({ e with state := .deferred } :: rest))
  | (.refused, s1) => (true, (s1.setQueue o rest).postShotDropped o e .deferExpired)

/-- Whether a look drops a LATE head (R50). One whose drop time lies behind now is dropped, one whose drop time lies
ahead is not. Where the drop time is now, the look and the drop time come together: R50's first bullet drops the head,
and R50's last sentence fires it where the free report is taken first. The model lets the world pick which of the two
is taken first, the model's choice (log 16). -/
def State.lookDrops (s : State) (e : Entry) : Bool × State :=
  if e.dropTime = s.now then s.firstOfTwo else (due s.now e.dropTime, s)

/-- Looks at the head of an output's queue (R50), as long as the channel is free: drops LATE heads whose drop time is
due, then fires the first head that is LATE or due; at the very moment of the drop time the world picks between the
drop and the firing (log 16). The first argument bounds the entries looked at. -/
def lookN : Nat → Output → State → State
  | 0, _, s => s
  | n + 1, o, s =>
    if s.channelFree o then
      match s.queue o with
      | [] => s
      | e :: rest =>
        match e.state with
        | .late =>
          match s.lookDrops e with
          | (true, s1) => lookN n o ((s1.setQueue o rest).postShotDropped o e .lateDropped)
          | (false, s1) =>
            match s1.fireHead o e rest with
            | (true, s2) => lookN n o s2
            | (false, s2) => s2
        | .waiting =>
          if due s.now e.start then
            match s.fireHead o e rest with
            | (true, s1) => lookN n o s1
            | (false, s1) => s1
          else s
        | _ => s
    else s

/-- The look at the head of an output's queue (R50). -/
def State.look (s : State) (o : Output) : State := lookN (s.queue o).length o s

/-- A channel whose output's source is SHOT reports free (R23), and the scheduler looks at the head. -/
def State.reportFree (s : State) (o : Output) : State :=
  if (s.profile o).source = .shot then s.look o else s

/-- Whether a look at the head of an output's queue would do anything, were its channel free. -/
def State.headCanAct (s : State) (o : Output) : Bool :=
  match s.queue o with
  | [] => false
  | e :: _ => e.state = .late || due s.now e.start

/-- Purges an output's queue (R60): the count of entries removed, and the state without them. -/
def State.purgeQueue (s : State) (o : Output) : Nat × State := ((s.queue o).length, s.setQueue o [])

/-- Purges the queues of several outputs (R61, R62): the total removed. -/
def State.purgeQueues (s : State) (os : List Output) : Nat × State :=
  os.foldl (fun r o => let p := r.2.purgeQueue o; (r.1 + p.1, p.2)) (0, s)

end Sys2Proof.Machine
end

