-- ==== Sys2Proof/Machine/Channel.lean ====
section
/-! DEFINITION. The channels' state machine (chapter 2): demand rise, fall and handover, the reports to the origins,
inhibit on and off, and the four channel timers. -/

namespace Sys2Proof.Machine

/-! ## Reports to a demand's origin (R23, R54, R56, R88) -/

/-- The origin learns that inhibit ended its demand: the Shot Scheduler removes the head it serves and reports it
ABORTED (R56); the Cam Unit ends the pass (R88). -/
def State.reportEnded (s : State) (o : Output) : Option Origin → State
  | some (.shot _) =>
    match s.queue o with
    | e :: rest => if e.served then (s.setQueue o rest).postShotEnd o e .aborted else s
    | [] => s
  | some (.cam _) => s.setPass o none
  | some .manual => s
  | none => s

/-- The origin learns that its set refused the demand, the channel standing in OFF again: the Shot Scheduler drops the
head with DEFER_EXPIRED (R54), the Cam Unit ends the pass with CAM_SKIPPED (R88), and for MANUAL the channel clears
the manual demand and posts MANUAL_DROPPED (R39). A SHOT-source channel then reports free. -/
def State.reportRefused (s : State) (o : Output) : Option Origin → State
  | some (.shot _) =>
    match s.queue o with
    | e :: rest => ((s.setQueue o rest).postShotDropped o e .deferExpired).reportFree o
    | [] => s
  | some (.cam _) =>
    match s.pass o with
    | some p => (s.setPass o none).post (.camSkipped o p.slot p.entryCycle .deferExpired s.now)
    | none => s
  | some .manual =>
    (s.setChan o { s.chan o with manualDemand := false }).post (.manualDropped o (s.profile o).iset s.now)
  | none => s

/-! ## Demand (R23, R24, R28, R30, R32, R34) -/

/-- A demand rise from the Cam Unit or a MANUAL order: taken in OFF (R24), remembered in RECOVER (R34), ended by
inhibit in INHIBITED (R36). In the other states no rise arises (R20; log 13). -/
def State.demandRise (s : State) (o : Output) (origin : Origin) : State :=
  match (s.chan o).state with
  | .off =>
    match s.riseFromOff o origin with
    | (.refused, s1) => s1.reportRefused o (some origin)
    | (_, s1) => s1
  | .recover => s.setChan o { s.chan o with remembered := some origin }
  | .inhibited => s.reportEnded o (some origin)
  | _ => s

/-- A demand handover to another slot (R23): the origin of the demand, or of the remembered demand, and nothing
else. -/
def State.demandHandover (s : State) (o : Output) (slot : Slot) : State :=
  let c := s.chan o
  if c.demand.isSome then s.setChan o { c with demand := some (.cam slot) }
  else if c.remembered.isSome then s.setChan o { c with remembered := some (.cam slot) }
  else s

/-- A demand fall. The first part says whether the channel reports fell unserved (R28, R34). -/
def State.demandFall (s : State) (o : Output) : Bool × State :=
  let c := s.chan o
  match c.state with
  | .queued =>
    (true, ((s.withdraw o).setChan o { c with state := .off, demand := none, deferTimer := none }).reportFree o)
  | .boost | .hold =>
    if (s.profile o).minOff = 0 then
      (false, (s.stopDrive o fun c => { c with state := .off, demand := none }).reportFree o)
    else (false, s.stopDrive o fun c => { c with state := .recover, demand := none })
  | .overtime =>
    if c.recoverTimer.isSome then (false, s.setChan o { c with state := .recover, demand := none })
    else (false, (s.setChan o { c with state := .off, demand := none }).reportFree o)
  | .recover => (c.remembered.isSome, s.setChan o { c with remembered := none })
  | .off | .inhibited => (false, s)

/-! ## Inhibit (R35, R36, R21) -/

/-- Inhibit on (R35), by the state it finds. -/
def State.inhibitOn (s : State) (o : Output) : State :=
  let c := s.chan o
  match c.state with
  | .off => s.setChan o { c with state := .inhibited, manualDemand := false }
  | .recover =>
    (s.setChan o { c with state := .inhibited, remembered := none, manualDemand := false }).reportEnded o c.remembered
  | .queued =>
    ((s.withdraw o).setChan o
      { c with state := .inhibited, demand := none, deferTimer := none, manualDemand := false }).reportEnded o c.demand
  | .boost | .hold =>
    (s.stopDrive o fun c => { c with state := .inhibited, demand := none, manualDemand := false }).reportEnded o
      c.demand
  | .overtime =>
    (s.setChan o { c with state := .inhibited, demand := none, manualDemand := false }).reportEnded o c.demand
  | .inhibited => s

/-- Inhibit off (R36): to RECOVER while the recover timer runs, else to OFF, where a SHOT-source channel reports
free. -/
def State.inhibitOff (s : State) (o : Output) : State :=
  let c := s.chan o
  if c.recoverTimer.isSome then s.setChan o { c with state := .recover }
  else (s.setChan o { c with state := .off }).reportFree o

/-- A report of a mode or group change at one channel (R21): the condition is evaluated afresh; a change of it is an
inhibit on or an inhibit off. -/
def State.reportInhibit (s : State) (o : Output) : State :=
  if s.inhibitCondition o then s.inhibitOn o
  else if (s.chan o).state = .inhibited then s.inhibitOff o
  else s

/-- Whether the report at a channel reaches beyond the channel's own record: an inhibit on that ends a demand, or an
inhibit off after which the scheduler's look acts. Reports that do not commute with every other (log 4). -/
def State.reportReaches (s : State) (o : Output) : Bool :=
  let c := s.chan o
  if s.inhibitCondition o then c.demand.isSome || c.remembered.isSome
  else c.state = .inhibited && c.recoverTimer.isNone && s.headCanAct o

/-- The reports of one change to several channels, in an order the part does not fix (R129, R99): those that touch
only their own channel first, since they commute with all, then the others in an order the world takes. -/
def State.reportAll (s : State) (os : List Output) : State :=
  let (order, s1) := arrange (os.filter s.reportReaches) s
  ((os.filter fun o => !s.reportReaches o) ++ order).foldl State.reportInhibit s1

/-! ## Channel timers (R27, R29, R31, R34); an expiry that is not due is no event (R2; log 3) -/

/-- The boost timer's expiry (R29). -/
def State.boostExpiry (s : State) (o : Output) : State :=
  let c := s.chan o
  if timerDue s.now c.boostTimer ∧ c.state = .boost then
    s.setChan o { c with state := .hold, boostTimer := none, holdPhase := 0 }
  else s

/-- The max-on timer's expiry (R31): the cut into OVERTIME, and its notice. -/
def State.maxOnExpiry (s : State) (o : Output) : State :=
  let c := s.chan o
  if timerDue s.now c.maxOnTimer ∧ c.driving then
    (s.stopDrive o fun c => { c with state := .overtime }).post (.overtime o c.demand c.driveStart s.now)
  else s

/-- The recover timer's expiry (R34): it stops the timer; in RECOVER the channel goes to OFF and a remembered demand
is taken as a rise, or a SHOT-source channel reports free. -/
def State.recoverExpiry (s : State) (o : Output) : State :=
  let c := s.chan o
  if timerDue s.now c.recoverTimer then
    if c.state = .recover then
      let s1 := s.setChan o { c with state := .off, recoverTimer := none, remembered := none }
      match c.remembered with
      | some origin => s1.demandRise o origin
      | none => s1.reportFree o
    else s.setChan o { c with recoverTimer := none }
  else s

/-- The defer timer's expiry in QUEUED (R27, R98): the output leaves the grant list, the conflict is captured, the
channel goes to OFF and reports refused. -/
def State.deferExpiry (s : State) (o : Output) : State :=
  let c := s.chan o
  if timerDue s.now c.deferTimer ∧ c.state = .queued then
    let s1 :=
      match (s.profile o).iset with
      | some i =>
        match c.demand with
        | some origin => (s.leaveGrants i o).captureConflict o i origin
        | none => s.leaveGrants i o
      | none => s
    (s1.setChan o { c with state := .off, demand := none, deferTimer := none }).reportRefused o c.demand
  else s

/-! ## The timer commands -/

/-- BOOST_TIMER_EXPIRY. -/
def execBoostTimerExpiry (o : Output) (s : State) : Host.Outcome State Fault Refusal :=
  event (fun s => s.boostExpiry o) s

/-- MAX_ON_TIMER_EXPIRY. -/
def execMaxOnTimerExpiry (o : Output) (s : State) : Host.Outcome State Fault Refusal :=
  event (fun s => s.maxOnExpiry o) s

/-- RECOVER_TIMER_EXPIRY. -/
def execRecoverTimerExpiry (o : Output) (s : State) : Host.Outcome State Fault Refusal :=
  event (fun s => s.recoverExpiry o) s

/-- DEFER_TIMER_EXPIRY. -/
def execDeferTimerExpiry (o : Output) (s : State) : Host.Outcome State Fault Refusal :=
  event (fun s => s.deferExpiry o) s

end Sys2Proof.Machine
end

