-- ==== Sys2Proof/Machine/Shots.lean ====
section
/-! DEFINITION. The Shot Scheduler's orders and events (chapter 3): SHOT, SHOTS, CANCEL, QUEUE_READ, and the due events
of a start, a drop time and an end time. -/

namespace Sys2Proof.Machine

/-! ## Admission (R44 to R48) -/

/-- A span as signed distances from now: its first moment, and the first moment after it (R43). -/
def spanOf (now start : Time) (duration minOff : Nat) : Int × Int :=
  (fromNow now start, fromNow now start + duration + minOff)

/-- Two spans share a moment (R43: one that ends where the other begins is disjoint from it). -/
def spansMeet (a b : Int × Int) : Bool := a.1 < b.2 && b.1 < a.2

/-- Whether an entry's nominal span, or its actual span where it is ACTIVE, meets a span (R47). -/
def Entry.meets (e : Entry) (now : Time) (minOff : Nat) (span : Int × Int) : Bool :=
  spansMeet (spanOf now e.start e.duration minOff) span ||
    match e.state with
    | .active d => spansMeet (spanOf now d e.duration minOff) span
    | _ => false

/-- A refusal of an entry: its code, and the entry met for OVERLAP. -/
structure Refused where
  code : Result
  met : Option (Word16 × Time) := none
  deriving DecidableEq, Repr

/-- The entry's own fields and the output's profile (R45): the output, once every check has passed. -/
def State.checkFields (s : State) (f : ShotFields) : Except Refused Output :=
  match outputOf f.output with
  | none => .error { code := .badField }
  | some o =>
    if f.flags.extractLsb' 2 6 ≠ 0 then .error { code := .badField }
    else if (s.profile o).source ≠ .shot then .error { code := .wrongSource }
    else if f.duration < Config.minDuration ∨ Config.maxDuration < f.duration then .error { code := .badField }
    else if (s.profile o).maxOn ≠ 0 ∧ msToUs (s.profile o).maxOn ≤ f.duration then .error { code := .tooLong }
    else .ok o

/-- The start check (R46): the absolute start. Flag bit 0 is the start kind, 1 for RELATIVE (R173). -/
def State.checkStart (s : State) (f : ShotFields) : Except Refused Time :=
  if f.flags.getLsbD 0 then
    if Config.horizon < f.start.toNat then .error { code := .horizon } else .ok (s.now + f.start)
  else if due s.now f.start then
    if f.grace < (s.now - f.start).toNat then .error { code := .tooLate } else .ok f.start
  else if Config.horizon < (f.start - s.now).toNat then .error { code := .horizon }
  else .ok f.start

/-- Room and spans (R47): none where every check passes. -/
def State.checkRoom (s : State) (o : Output) (start : Time) (duration : Nat) : Option Refused :=
  let minOff := (s.profile o).minOff
  let met (e : Entry) : Refused := { code := .overlap, met := some (e.tag, e.start) }
  if Config.poolEntries ≤ s.poolUse then some { code := .poolFull }
  else if Config.queueEntries ≤ (s.queue o).length then some { code := .queueFull }
  else
    match (s.queue o).find? fun e => e.meets s.now minOff (spanOf s.now start duration minOff) with
    | some e => some (met e)
    | none =>
      match s.queue o with
      | h :: _ => if h.served ∧ fromNow s.now start ≤ fromNow s.now h.start then some (met h) else none
      | [] => none

/-- Inserts an entry at the place its start gives (R43, R48). -/
def insertEntry (now : Time) (e : Entry) : List Entry → List Entry
  | [] => [e]
  | x :: xs => if fromNow now e.start < fromNow now x.start then e :: x :: xs else x :: insertEntry now e xs

/-- An entry as it enters its queue (R48): LATE where its start is due, WAITING where not. -/
def Entry.admitted (e : Entry) (now : Time) : Entry := { e with state := if due now e.start then .late else .waiting }

/-- Admits an entry that has passed every check (R48): a new head on a free channel is
looked at. -/
def State.enterQueue (s : State) (o : Output) (e : Entry) : State :=
  let e1 := e.admitted s.now
  let s1 := s.setQueue o (insertEntry s.now e1 (s.queue o))
  if (s1.queue o).head? = some e1 then s1.look o else s1

/-- Checks and admits one entry (R45 to R48): the output and the absolute start, and the state after. -/
def State.book (s : State) (f : ShotFields) : Except Refused (Output × Time × State) :=
  match s.checkFields f with
  | .error r => .error r
  | .ok o =>
    match s.checkStart f with
    | .error r => .error r
    | .ok start =>
      match s.checkRoom o start f.duration with
      | some r => .error r
      | none =>
        .ok (o, start,
          s.enterQueue o
            { tag := f.tag, start := start, duration := f.duration, grace := f.grace, report := f.flags.getLsbD 1,
              state := .waiting })

/-- The state a SHOT reply reports for the entry just admitted, known by its start: DEFER_EXPIRED once it is gone
(R48). -/
def State.bookedState (s : State) (o : Output) (start : Time) : EntryReport :=
  match (s.queue o).find? fun e => e.start = start with
  | some e => e.state.reportState
  | none => .deferExpired

/-- SHOT (R44). -/
def ownShot (f : ShotFields) (s : State) : Answer :=
  if s.mode = .idle then refuse s .wrongMode
  else
    match s.book f with
    | .error ⟨_, some (tag, start)⟩ => { state := s, body := .overlap tag start }
    | .error ⟨r, none⟩ => refuse s r
    | .ok (o, start, s1) =>
      { state := s1, body := .shot start (s1.bookedState o start) (s1.queue o).length s1.poolUse }

/-- SHOT. -/
def execShot (seq : Byte) (body : List Byte) (s : State) : Host.Outcome State Fault Refusal :=
  order 0x30 decodeShot ownShot seq body s

/-- Takes the entries of a batch in body order (R49): the state, the count accepted, and the refusal that stopped it,
if one did. -/
def bookBatch : List ShotFields → Nat → State → State × Nat × Option Refused
  | [], n, s => (s, n, none)
  | f :: fs, n, s =>
    match s.book f with
    | .ok (_, _, s1) => bookBatch fs (n + 1) s1
    | .error r => (s, n, some r)

/-- SHOTS (R49). -/
def ownShots (fs : List ShotFields) (s : State) : Answer :=
  if s.mode = .idle then { state := s, body := .shots .wrongMode 0 0 none }
  else
    match bookBatch fs 0 s with
    | (s1, n, none) => { state := s1, body := .shots .ok n n none }
    | (s1, n, some r) => { state := s1, body := .shots r.code n n r.met }

/-- SHOTS. -/
def execShots (seq : Byte) (body : List Byte) (s : State) : Host.Outcome State Fault Refusal :=
  order 0x31 decodeShots ownShots seq body s

/-! ## CANCEL (R57 to R59) -/

/-- Whether a CANCEL removes an entry (R58). -/
def cancelRemoves (f : CancelFields) (e : Entry) : Bool :=
  e.tag = f.tag &&
    match e.state with
    | .active _ => f.includeActive
    | _ => true

/-- Step 1 at one output (R58): the matching entries leave the queue, each with SHOT_END CANCELLED where reported. -/
def State.cancelQueue (s : State) (f : CancelFields) (o : Output) : Nat × State :=
  let gone := (s.queue o).filter (cancelRemoves f)
  let s1 := s.setQueue o ((s.queue o).filter fun e => !cancelRemoves f e)
  (gone.length, gone.foldl (fun s e => s.postShotEnd o e .cancelled) s1)

/-- Step 1 over the outputs named, in ascending order: the count removed. -/
def State.cancelQueues (s : State) (f : CancelFields) : Nat × State :=
  f.outputs.foldl (fun r o => let p := r.2.cancelQueue f o; (r.1 + p.1, p.2)) (0, s)

/-- Step 2 at one output, by the head it had before step 1 (R58, R59): a head that was served gives its channel a
demand fall; another head that was removed leaves a new one, looked at where the channel is free (log 11). -/
def State.cancelHead (s : State) (f : CancelFields) (before : State) (o : Output) : State :=
  match before.queue o with
  | h :: _ => if cancelRemoves f h then if h.served then (s.demandFall o).2 else s.look o else s
  | [] => s

/-- CANCEL (R57 to R59): executed in RUN and PAUSED. -/
def ownCancel (f : CancelFields) (s : State) : Answer :=
  if s.mode = .idle then refuse s .wrongMode
  else
    let r := s.cancelQueues f
    { state := f.outputs.foldl (fun t o => t.cancelHead f s o) r.2, body := .cancelled r.1 }

/-- CANCEL. -/
def execCancel (seq : Byte) (body : List Byte) (s : State) : Host.Outcome State Fault Refusal :=
  order 0x32 decodeCancel ownCancel seq body s

/-! ## QUEUE_READ (R63) -/

/-- QUEUE_READ (R63): up to eight entries from the first index. -/
def ownQueueRead (f : Output × Nat) (s : State) : Answer :=
  { state := s
    body := .queue (s.queue f.1).length f.2 (((s.queue f.1).drop f.2).take Config.queueReadEntries) }

/-- QUEUE_READ. -/
def execQueueRead (seq : Byte) (body : List Byte) (s : State) : Host.Outcome State Fault Refusal :=
  order 0x33 decodeQueueRead ownQueueRead seq body s

/-! ## Due events (R51, R55); one whose time is not due is no event (R2; log 3) -/

/-- A WAITING entry with this start. -/
def Entry.waitsFor (start : Time) (e : Entry) : Bool := e.state = .waiting && e.start = start

/-- A LATE entry with this start. -/
def Entry.lateFor (start : Time) (e : Entry) : Bool := e.state = .late && e.start = start

/-- A start comes due (R51): a head on a free channel fires, any other WAITING entry goes LATE. A head refused at once
leaves the channel free, and the new head is looked at (R54). -/
def State.startDue (s : State) (o : Output) (start : Time) : State :=
  if due s.now start then
    match s.queue o with
    | e :: rest =>
      if e.waitsFor start ∧ s.channelFree o then
        match s.fireHead o e rest with
        | (true, s1) => s1.look o
        | (false, s1) => s1
      else s.setQueue o ((s.queue o).map fun x => if x.waitsFor start then { x with state := .late } else x)
    | [] => s
  else s

/-- A drop time comes due (R51): the LATE entry is dropped with LATE_DROPPED, wherever it stands. -/
def State.dropDue (s : State) (o : Output) (start : Time) : State :=
  match (s.queue o).find? fun e => e.lateFor start with
  | some e =>
    if due s.now e.dropTime then
      (s.setQueue o ((s.queue o).eraseP fun e => e.lateFor start)).postShotDropped o e .lateDropped
    else s
  | none => s

/-- The end time of the ACTIVE head comes due (R55): removal, SHOT_END DONE where reported, then the demand fall. -/
def State.endDue (s : State) (o : Output) : State :=
  match s.queue o with
  | e :: rest =>
    match e.state with
    | .active d =>
      if due s.now (after d e.duration) then (((s.setQueue o rest).postShotEnd o e .done).demandFall o).2 else s
    | _ => s
  | [] => s

/-- SHOT_START_DUE. -/
def execShotStartDue (o : Output) (start : Time) (s : State) : Host.Outcome State Fault Refusal :=
  event (fun s => s.startDue o start) s

/-- SHOT_DROP_DUE. -/
def execShotDropDue (o : Output) (start : Time) (s : State) : Host.Outcome State Fault Refusal :=
  event (fun s => s.dropDue o start) s

/-- SHOT_END_DUE. -/
def execShotEndDue (o : Output) (s : State) : Host.Outcome State Fault Refusal :=
  event (fun s => s.endDue o) s

end Sys2Proof.Machine
end

