-- ==== Sys2Proof/Machine/Cam.lean ====
section
/-! DEFINITION. The Cam Unit (chapter 4): windows and their conflicts, the passes moved by position and index events,
commits, and the cam orders. -/

namespace Sys2Proof.Machine

/-! ## Windows (R68 to R70) -/

/-- A window wraps through the index when its on-angle is above its off-angle (R68). -/
def windowWraps (w : Window) : Bool := w.offAngle < w.onAngle

/-- A window is active in a cycle when the count modulo its divisor is its phase (R69). -/
def windowActive (w : Window) (c : Time) : Bool := c.toNat % w.divisor = w.phase

/-- The piece a window is entered on (R81). -/
def entryPiece (w : Window) : Piece := if windowWraps w then .head else .plain

/-- Whether a piece of a window holds a position (R68). -/
def pieceHolds (w : Window) (x : Nat) : Piece → Bool
  | .plain => w.onAngle ≤ x && x < w.offAngle
  | .head => w.onAngle ≤ x
  | .tail => x < w.offAngle

/-- A range of positions with the phase of its piece: first position, first position after it, phase. -/
structure PieceRange where
  first : Nat
  stop : Nat
  phase : Nat
  deriving DecidableEq, Repr

/-- The pieces of a window as ranges (R68); a tail has the phase after the head's (R69). -/
def windowRanges (cycleLength : Nat) (w : Window) : List PieceRange :=
  if windowWraps w then [⟨w.onAngle, cycleLength, w.phase⟩, ⟨0, w.offAngle, (w.phase + 1) % w.divisor⟩]
  else [⟨w.onAngle, w.offAngle, w.phase⟩]

/-- Two pieces conflict (R70): a shared position, and phases with one remainder by the divisors' gcd. -/
def rangesConflict (g : Nat) (a b : PieceRange) : Bool :=
  max a.first b.first < min a.stop b.stop && a.phase % g = b.phase % g

/-- Two windows conflict (R70). -/
def windowsConflict (cycleLength : Nat) (v w : Window) : Bool :=
  v.output = w.output &&
    (windowRanges cycleLength v).any fun a =>
      (windowRanges cycleLength w).any fun b => rangesConflict (Nat.gcd v.divisor w.divisor) a b

/-! ## Looking into the active table -/

/-- The first window of an output, with its slot, that satisfies a test. -/
def CamTable.findFor (t : CamTable) (o : Output) (test : Window → Bool) : Option (Slot × Window) :=
  CamTable.windows t |>.find? fun e => e.2.output = o && test e.2

/-- The window of the active table entered at a position in a cycle, as the pass it begins (R81). -/
def State.entryAt (s : State) (o : Output) (x : Nat) (c : Time) : Option Pass :=
  (CamTable.findFor s.cam.active o fun w => w.onAngle = x && windowActive w c).map fun e =>
    { slot := e.1, piece := entryPiece e.2, entryCycle := c }

/-- Whether a pass's piece holds a position. -/
def State.passHolds (s : State) (p : Pass) (x : Nat) : Bool :=
  match rd s.cam.active p.slot with
  | some w => pieceHolds w x p.piece
  | none => false

/-- The cam-source outputs, in ascending order. -/
def State.camOutputs (s : State) : List Output := allOutputs.filter fun o => (s.profile o).source = .cam

/-! ## Demand in two rounds (R81, R180) -/

/-- What the Cam Unit does for one output at a position or index event. -/
inductive CamMove
  | none
  /-- The pass goes on through the index into its tail, with no demand event (R83). -/
  | keep (p : Pass)
  | handover (p : Pass)
  | fall
  | rise (p : Pass)
  deriving DecidableEq, Repr

/-- Exit and entry combined (R81). -/
def exitEntry (hasPass exit : Bool) (entry : Option Pass) : CamMove :=
  match hasPass, exit, entry with
  | true, true, some p => .handover p
  | true, true, none => .fall
  | false, _, some p => .rise p
  | _, _, _ => .none

/-- A demand fall from the Cam Unit: the pass becomes absent, the channel takes the fall, and one that fell unserved
posts CAM_SKIPPED with reason UNSERVED (R81, R88). -/
def State.camFall (s : State) (o : Output) : State :=
  match s.pass o with
  | some p =>
    match (s.setPass o none).demandFall o with
    | (true, s1) => s1.post (.camSkipped o p.slot p.entryCycle .unserved s1.now)
    | (false, s1) => s1
  | none => s

/-- A move of the first round: keeps, handovers and falls (R180). -/
def State.firstRound (s : State) (m : Output × CamMove) : State :=
  match m.2 with
  | .keep p => s.setPass m.1 (some p)
  | .handover p => (s.setPass m.1 (some p)).demandHandover m.1 p.slot
  | .fall => s.camFall m.1
  | _ => s

/-- A move of the second round: rises (R180). -/
def State.secondRound (s : State) (m : Output × CamMove) : State :=
  match m.2 with
  | .rise p => (s.setPass m.1 (some p)).demandRise m.1 (.cam p.slot)
  | _ => s

/-- The moves of one event, decided for every cam-source output, given in two rounds, each in ascending order
(R180). -/
def State.camRounds (s : State) (decide : Output → CamMove) : State :=
  let moves := s.camOutputs.map fun o => (o, decide o)
  moves.foldl State.secondRound (moves.foldl State.firstRound s)

/-! ## Position and index events (R80, R81, R83, R84) -/

/-- What a position event does for one output (R81, R82). -/
def State.pulseMove (s : State) (x : Nat) (o : Output) : CamMove :=
  let entry := s.entryAt o x s.tracker.cycle
  match s.pass o with
  | some p => exitEntry true (!s.passHolds p x) entry
  | none => exitEntry false false entry

/-- A position event of kind PULSE (R81); outside RUN it is ignored (R80). -/
def State.camPosition (s : State) (x : Nat) : State := if s.mode = .run then s.camRounds (s.pulseMove x) else s

/-- What an index event with no commit pending does for one output (R83). -/
def State.indexMove (s : State) (c : Time) (o : Output) : CamMove :=
  let entry := s.entryAt o 0 c
  match s.pass o with
  | some p =>
    match p.piece, rd s.cam.active p.slot with
    | .head, some w => if 0 < w.offAngle then .keep { p with piece := .tail } else exitEntry true true entry
    | _, _ => exitEntry true true entry
  | none => exitEntry false false entry

/-- The pass on a tail of the new table that continues a head active in the cycle just ended (R84). -/
def State.carriedTail (s : State) (c : Time) (o : Output) : Option Pass :=
  (CamTable.findFor s.cam.active o fun w => windowWraps w && 0 < w.offAngle && windowActive w (c - 1)).map fun e =>
    { slot := e.1, piece := .tail, entryCycle := c - 1 }

/-- What a swap does for one output against the new table (R84). Where a tail and a window with on-angle 0 both
qualify, the tail is taken (log 10). -/
def State.swapMove (s : State) (c : Time) (o : Output) : CamMove :=
  match s.pass o with
  | some _ =>
    match s.carriedTail c o with
    | some p => .handover p
    | none => exitEntry true true (s.entryAt o 0 c)
  | none => exitEntry false false (s.entryAt o 0 c)

/-- A commit takes effect (R84, R86, R87, R76): the active table becomes a copy of the shadow, no commit is pending,
CAM_COMMITTED is posted. -/
def State.takeCommit (s : State) (cause : CommitCause) : State :=
  State.post { s with cam := { s.cam with active := s.cam.shadow, commitPending := false } }
    (.camCommitted cause s.tracker.cycle (CamTable.count s.cam.shadow))

/-- A pending commit takes effect; without one nothing happens. -/
def State.takePending (s : State) (cause : CommitCause) : State :=
  if s.cam.commitPending then s.takeCommit cause else s

/-- An index event with the new cycle count (R83, R84); outside RUN it is ignored (R80). -/
def State.camIndex (s : State) (c : Time) : State :=
  if s.mode = .run then
    if s.cam.commitPending then
      let s1 := s.takeCommit .index
      s1.camRounds (s1.swapMove c)
    else s.camRounds (s.indexMove c)
  else s

/-! ## When the conditions go away (R85 to R87) -/

/-- Every pass ends with a demand fall, in ascending order of output (R85). -/
def State.endPasses (s : State) : State := s.camOutputs.foldl State.camFall s

/-- SYNCED or STALLED: the states that keep a commit pending (R76, R86). -/
def TrackerState.tracking : TrackerState → Bool
  | .synced | .stalled => true
  | _ => false

/-- The Cam Unit takes a tracker state change (R85, R86). -/
def State.camStateChange (s : State) (old new : TrackerState) : State :=
  let s1 := if old = .synced ∧ new ≠ .synced then s.endPasses else s
  if old.tracking ∧ !new.tracking then s1.takePending .tracker else s1

/-- The Cam Unit takes a mode report, after every channel has (R87): a mode other than RUN leaves no pass and applies
a pending commit. -/
def State.camModeReport (s : State) : State :=
  if s.mode = .run then s
  else State.takePending { s with cam := { s.cam with passes := Vector.replicate 16 none } } .mode

/-! ## Cam orders (R71 to R78) -/

/-- The checks that shadow edits share (R71 to R74): NO_ANGLE while L is 0, COMMIT_PENDING while a commit is
pending. -/
def State.editRefusal (s : State) : Option Result :=
  if s.tracker.cycleLength = 0 then some .noAngle
  else if s.cam.commitPending then some .commitPending
  else none

/-- Writes the shadow table. -/
def State.setShadow (s : State) (t : CamTable) : State := { s with cam := { s.cam with shadow := t } }

/-- CAM_PUT (R71). -/
def ownCamPut (w : Window) (s : State) : Answer :=
  let l := s.tracker.cycleLength
  match s.editRefusal with
  | some r => refuse s r
  | none =>
    if (s.profile w.output).source ≠ .cam then refuse s .wrongSource
    else if l ≤ w.onAngle ∨ l ≤ w.offAngle ∨ w.onAngle = w.offAngle then refuse s .badField
    else
      match allSlots.find? fun i => (rd s.cam.shadow i).isNone with
      | none => refuse s .tableFull
      | some slot =>
        match (CamTable.windows s.cam.shadow).find? fun e => windowsConflict l w e.2 with
        | some e => { state := s, body := .windowOverlap e.1 }
        | none => { state := s.setShadow (wr s.cam.shadow slot (some w)), body := .camPut slot }

/-- CAM_PUT. -/
def execCamPut (seq : Byte) (body : List Byte) (s : State) : Host.Outcome State Fault Refusal :=
  order 0x42 decodeCamPut ownCamPut seq body s

/-- CAM_DROP (R72). -/
def ownCamDrop (b : Byte) (s : State) : Answer :=
  match s.editRefusal with
  | some r => refuse s r
  | none =>
    match slotOf b with
    | none => refuse s .noSuchSlot
    | some slot =>
      if (rd s.cam.shadow slot).isNone then refuse s .noSuchSlot
      else { state := s.setShadow (wr s.cam.shadow slot none), body := .code .ok }

/-- CAM_DROP. -/
def execCamDrop (seq : Byte) (body : List Byte) (s : State) : Host.Outcome State Fault Refusal :=
  order 0x43 decodeCamDrop ownCamDrop seq body s

/-- CAM_CLEAR (R73). -/
def ownCamClear (_ : Unit) (s : State) : Answer :=
  match s.editRefusal with
  | some r => refuse s r
  | none =>
    { state := s.setShadow (Vector.replicate 96 none), body := .windows (CamTable.count s.cam.shadow) }

/-- CAM_CLEAR. -/
def execCamClear (seq : Byte) (body : List Byte) (s : State) : Host.Outcome State Fault Refusal :=
  order 0x44 decodeEmpty ownCamClear seq body s

/-- CAM_COPY (R74). -/
def ownCamCopy (_ : Unit) (s : State) : Answer :=
  match s.editRefusal with
  | some r => refuse s r
  | none => { state := s.setShadow s.cam.active, body := .windows (CamTable.count s.cam.active) }

/-- CAM_COPY. -/
def execCamCopy (seq : Byte) (body : List Byte) (s : State) : Host.Outcome State Fault Refusal :=
  order 0x45 decodeEmpty ownCamCopy seq body s

/-- CAM_COMMIT (R76): at once, unless the mode is RUN and the tracker SYNCED or STALLED, where it becomes pending. -/
def ownCamCommit (_ : Unit) (s : State) : Answer :=
  let n := CamTable.count s.cam.shadow
  if s.cam.commitPending then refuse s .commitPending
  else if s.mode = .run ∧ s.tracker.state.tracking then
    { state := { s with cam := { s.cam with commitPending := true } }, body := .commit true n }
  else { state := s.takeCommit .order, body := .commit false n }

/-- CAM_COMMIT. -/
def execCamCommit (seq : Byte) (body : List Byte) (s : State) : Host.Outcome State Fault Refusal :=
  order 0x46 decodeEmpty ownCamCommit seq body s

/-- CAM_ABORT (R78). -/
def ownCamAbort (_ : Unit) (s : State) : Answer :=
  if s.cam.commitPending then
    { state := { s with cam := { s.cam with commitPending := false } }, body := .code .ok }
  else refuse s .notPending

/-- CAM_ABORT. -/
def execCamAbort (seq : Byte) (body : List Byte) (s : State) : Host.Outcome State Fault Refusal :=
  order 0x47 decodeEmpty ownCamAbort seq body s

/-- The table a selector names. -/
def State.camTable (s : State) : TableSel → CamTable
  | .active => s.cam.active
  | .shadow => s.cam.shadow

/-- The pass CAM_READ reports: the output's, where it is on this slot of the active table (R75). -/
def State.readPass (s : State) (t : TableSel) (slot : Slot) (o : Output) : Option Pass :=
  match t with
  | .active => (s.pass o).filter fun p => p.slot = slot
  | .shadow => none

/-- CAM_READ (R75). -/
def ownCamRead (f : TableSel × Byte) (s : State) : Answer :=
  match slotOf f.2 with
  | none => refuse s .noSuchSlot
  | some slot =>
    match rd (s.camTable f.1) slot with
    | none => refuse s .noSuchSlot
    | some w => { state := s, body := .camRead f.1 slot w (s.readPass f.1 slot w.output) }

/-- CAM_READ. -/
def execCamRead (seq : Byte) (body : List Byte) (s : State) : Host.Outcome State Fault Refusal :=
  order 0x48 decodeCamRead ownCamRead seq body s

end Sys2Proof.Machine
end

