-- ==== Sys2Proof/Machine/Tracker.lean ====
section
/-! DEFINITION. The Angle Tracker (chapter 1): pulses, indexes, the stall timer, and the orders SET_ANGLE, SET_CYCLE and
TIME. -/

namespace Sys2Proof.Machine

/-- The pulse count lies in the range in which an index is accepted (R7, R9). -/
def Tracker.inRange (t : Tracker) : Bool :=
  t.cycleLength ≤ t.pulses + t.tolerance && t.pulses ≤ t.cycleLength + t.tolerance

/-- The stall timer started or restarted now; it stays stopped with a stall timeout of 0 (R11). -/
def Tracker.startStall (t : Tracker) (now : Time) : Tracker :=
  { t with stallTimer := if t.stallTimeout = 0 then none else some (after now (msToUs t.stallTimeout)) }

/-- A change of tracker state (R14, R15): the record takes its new values, a TRACKER notice is posted, and then the
Cam Unit takes the change. -/
def State.trackerTo (s : State) (t : Tracker) (cause : TrackerCause) : State :=
  (State.post { s with tracker := t } (.tracker s.tracker.state t.state cause)).camStateChange s.tracker.state t.state

/-- Writes the tracker without a change of its state. -/
def State.setTracker (s : State) (t : Tracker) : State := { s with tracker := t }

/-- A pulse in SYNCED (R8). -/
def State.pulseSynced (s : State) : State :=
  let t := s.tracker.startStall s.now
  if t.pulses < t.cycleLength + t.tolerance then
    let x := min (t.pulses + 1) (t.cycleLength - 1)
    let s1 := s.setTracker { t with pulses := t.pulses + 1, position := x }
    if x = t.position then s1 else s1.camPosition x
  else s.trackerTo { t with state := .unsynced, pulses := 0, position := 0, stallTimer := none } .indexMissing

/-- STALLED to SYNCED at a motion (R12). -/
def State.motion (s : State) : State :=
  s.trackerTo ({ s.tracker with state := .synced }.startStall s.now) .motion

/-- A pulse (R5, R7, R8, R12). -/
def State.pulse (s : State) : State :=
  let t := s.tracker
  match t.state with
  | .off | .unsynced => s
  | .verifying => s.setTracker { t with pulses := min (t.pulses + 1) (t.cycleLength + t.tolerance + 1) }
  | .synced => s.pulseSynced
  | .stalled => s.motion.pulseSynced

/-- An accepted index (R9): the cycle boundary, and the index event to the Cam Unit. -/
def State.acceptIndex (s : State) : State :=
  let t := s.tracker
  let c := t.cycle + 1
  (s.setTracker { t with cycle := c, pulses := 0, position := 0 }).camIndex c

/-- An index outside the range in SYNCED or STALLED (R10, R12). -/
def State.loseSync (s : State) : State :=
  s.trackerTo { s.tracker with state := .verifying, pulses := 0, position := 0, stallTimer := none } .syncLost

/-- An index (R5, R6, R7, R9, R10, R12). -/
def State.index (s : State) : State :=
  let t := s.tracker
  match t.state with
  | .off => s
  | .unsynced => s.trackerTo { t with state := .verifying, pulses := 0 } .firstIndex
  | .verifying =>
    if t.inRange then
      s.trackerTo
        ({ t with state := .synced, cycle := t.cycle + 1, pulses := 0, position := 0 }.startStall s.now) .verified
    else s.setTracker { t with pulses := 0 }
  | .synced => if t.inRange then s.acceptIndex else s.loseSync
  | .stalled => if t.inRange then s.motion.acceptIndex else s.loseSync

/-- The stall timer's expiry in SYNCED (R11). -/
def State.stallExpiry (s : State) : State :=
  let t := s.tracker
  if timerDue s.now t.stallTimer ∧ t.state = .synced then
    s.trackerTo { t with state := .stalled, stallTimer := none } .stall
  else s

/-- ENC_PULSE. -/
def execEncPulse (s : State) : Host.Outcome State Fault Refusal := event State.pulse s

/-- IDX_INDEX. -/
def execIdxIndex (s : State) : Host.Outcome State Fault Refusal := event State.index s

/-- STALL_TIMER_EXPIRY. -/
def execStallTimerExpiry (s : State) : Host.Outcome State Fault Refusal := event State.stallExpiry s

/-! ## Orders -/

/-- Whether a table holds a window with an angle of `l` or more (R16). -/
def CamTable.reaches (t : CamTable) (l : Nat) : Bool :=
  (CamTable.windows t).any fun e => l ≤ e.2.onAngle || l ≤ e.2.offAngle

/-- The tracker a SET_ANGLE leaves (R16): the three fields stored, the count and position 0, the stall timer stopped,
the cycle count kept. -/
def Tracker.configured (t : Tracker) (f : AngleFields) : Tracker :=
  { cycleLength := f.cycleLength, tolerance := f.tolerance, stallTimeout := f.stallTimeout,
    state := if f.cycleLength = 0 then .off else .unsynced, pulses := 0, position := 0, cycle := t.cycle,
    stallTimer := none }

/-- SET_ANGLE (R16). -/
def ownSetAngle (f : AngleFields) (s : State) : Answer :=
  if s.mode ≠ .idle then refuse s .wrongMode
  else if f.cycleLength ≠ 0 ∧ f.cycleLength ≤ 4 * f.tolerance then refuse s .badField
  else if f.cycleLength = 0 ∧ s.camOutputs ≠ [] then refuse s .inUse
  else if f.cycleLength ≠ 0 ∧
      (CamTable.reaches s.cam.active f.cycleLength ∨ CamTable.reaches s.cam.shadow f.cycleLength) then
    refuse s .inUse
  else
    let t := s.tracker.configured f
    { state := if t.state = s.tracker.state then s.setTracker t else s.trackerTo t .config, body := .code .ok }

/-- SET_ANGLE. -/
def execSetAngle (seq : Byte) (body : List Byte) (s : State) : Host.Outcome State Fault Refusal :=
  order 0x40 decodeSetAngle ownSetAngle seq body s

/-- SET_CYCLE (R17). -/
def ownSetCycle (c : Time) (s : State) : Answer :=
  { state := s.setTracker { s.tracker with cycle := c }, body := .code .ok }

/-- SET_CYCLE. -/
def execSetCycle (seq : Byte) (body : List Byte) (s : State) : Host.Outcome State Fault Refusal :=
  order 0x41 decodeSetCycle ownSetCycle seq body s

/-- TIME (R3). -/
def ownTime (_ : Unit) (s : State) : Answer :=
  { state := s, body := .time s.now s.tracker.state s.tracker.position s.tracker.cycle }

/-- TIME. -/
def execTime (seq : Byte) (body : List Byte) (s : State) : Host.Outcome State Fault Refusal :=
  order 0x03 decodeEmpty ownTime seq body s

end Sys2Proof.Machine
end

