-- ==== Sys2Proof/Machine/Trip.lean ====
section
/-! DEFINITION. The Trip Unit (chapter 6): source changes and groups, the fault inputs' filters, the rail monitor, the
LINK source, and the trip orders. -/

namespace Sys2Proof.Machine

/-! ## Groups (R119 to R122) -/

/-- A trip start (R120): the group is TRIPPED, its members take the report, their queues are purged under PURGE, and
GROUP_TRIPPED is posted with the count and the watched sources active at the trip start. -/
def State.tripStart (s : State) (g : GroupId) : State :=
  let s1 := (s.setGroup g { s.group g with state := .tripped, restoreTimer := none }).reportAll (s.groupMembers g)
  let r := if (s.group g).policy = .purge then s1.purgeQueues (s.groupMembers g) else (0, s1)
  r.2.post (.groupTripped g (s.activeWatched g) r.1 s.now)

/-- A group reaches NORMAL (R122): GROUP_RELEASED, then the members' report. -/
def State.releaseGroup (s : State) (g : GroupId) (how : ReleaseHow) : State :=
  ((s.setGroup g { s.group g with state := .normal, restoreTimer := none }).post
    (.groupReleased g how s.now)).reportAll (s.groupMembers g)

/-- The restore timer starts (R121); a restore delay of 0 expires at once. -/
def State.startRestore (s : State) (g : GroupId) : State :=
  let x := s.group g
  if x.restoreDelay = 0 then s.releaseGroup g .restored
  else s.setGroup g { x with state := .releasing, restoreTimer := some (after s.now (msToUs x.restoreDelay)) }

/-- A group goes back to TRIPPED, or stays there, with its restore timer stopped (R119, R127). -/
def State.backToTripped (s : State) (g : GroupId) : State :=
  s.setGroup g { s.group g with state := .tripped, restoreTimer := none }

/-- A group takes a change of one of its watched sources (R119). -/
def State.evalGroup (s : State) (g : GroupId) : State :=
  let x := s.group g
  match x.state with
  | .normal => if s.groupClear g then s else s.tripStart g
  | .tripped => if x.releaseMode = .auto ∧ s.groupClear g then s.startRestore g else s
  | .releasing => if s.groupClear g then s else s.backToTripped g

/-- A source change event (R108): each group that watches a source of the mask, in ascending order. -/
def State.sourceChange (s : State) (mask : Byte) : State :=
  allGroups.foldl (fun s g => if (s.group g).sources &&& mask = 0 then s else s.evalGroup g) s

/-! ## Fault inputs (R109 to R112) -/

/-- One sample of a pin level by the filter (R110). -/
def FaultIn.sample (f : FaultIn) (level : Level) : FaultIn :=
  if level = f.filtered then { f with run := 0 }
  else if f.run + 1 < f.depth then { f with run := f.run + 1 }
  else { f with filtered := level, run := 0 }

/-- A sample of a fault input: the pin has this level; where the input's next sample is due the filter takes it, and a
change of the filtered level is a source change (R110, R111; logs 3 and 5). -/
def State.faultSample (s : State) (i : InputId) (level : Level) : State :=
  let s1 : State := { s with pins := { s.pins with faults := wr s.pins.faults i level } }
  let f := s.faultIn i
  if due s.now f.nextSample then
    let f1 := { f.sample level with nextSample := after f.nextSample f.period }
    let s2 := s1.setFaultIn i f1
    if f1.active = f.active then s2 else s2.sourceChange (inputMask i)
  else s1

/-- FAULT_SAMPLE. -/
def execFaultSample (i : InputId) (level : Level) (s : State) : Host.Outcome State Fault Refusal :=
  event (fun s => s.faultSample i level) s

/-! ## Rail monitor (R113 to R115) -/

/-- The rail as a sample reads it: 0 to 600 tenths of a volt (R113). -/
def clampRail (v : Int) : Nat := min v.toNat 600

/-- One rail source and its run count at a sample that adds to the run or breaks it (R114). -/
def railSource (active : Bool) (run depth : Nat) (adds : Bool) : Bool × Nat :=
  if adds then if run + 1 < depth then (active, run + 1) else (!active, 0) else (active, 0)

/-- One sample judged against both limits at once (R114). -/
def RailMonitor.sample (m : RailMonitor) (v : Nat) : RailMonitor :=
  let low := railSource m.lowActive m.lowRun m.depth (if m.lowActive then m.low ≤ v else v < m.low)
  let high := railSource m.highActive m.highRun m.depth (if m.highActive then v ≤ m.high else m.high < v)
  { m with lastSample := v, lowActive := low.1, lowRun := low.2, highActive := high.1, highRun := high.2 }

/-- The source mask of the rail sources that differ between two records. -/
def railMask (a b : RailMonitor) : Byte :=
  sourceMask false false false false false (a.lowActive ≠ b.lowActive) (a.highActive ≠ b.highActive) false

/-- The rail monitor takes its new record; what changed of its two sources is one source change (R114, R115). -/
def State.setRailMonitor (s : State) (m : RailMonitor) : State :=
  let s1 : State := { s with rail := m }
  if railMask s.rail m = 0 then s1 else s1.sourceChange (railMask s.rail m)

/-- A sample of the rail: the pin has this value; where the monitor is enabled and its next sample is due it takes it
(R113; logs 3 and 5). -/
def State.railSample (s : State) (v : Int) : State :=
  let s1 : State := { s with pins := { s.pins with rail := v } }
  if s.rail.enable ∧ due s.now s.rail.nextSample then
    s1.setRailMonitor
      { s.rail.sample (clampRail v) with nextSample := after s.rail.nextSample Config.railPeriod }
  else s1

/-- RAIL_SAMPLE. -/
def execRailSample (v : Int) (s : State) : Host.Outcome State Fault Refusal := event (fun s => s.railSample v) s

/-! ## LINK and the restore timer (R116, R121) -/

/-- LINK takes a state; a change of it is a source change (R116). -/
def State.setLinkActive (s : State) (active : Bool) : State :=
  if s.link.linkActive = active then s
  else State.sourceChange { s with link := { s.link with linkActive := active } } linkMask

/-- The restore timer's expiry in RELEASING (R121). -/
def State.restoreExpiry (s : State) (g : GroupId) : State :=
  let x := s.group g
  if timerDue s.now x.restoreTimer ∧ x.state = .releasing then s.releaseGroup g .restored else s

/-- RESTORE_TIMER_EXPIRY. -/
def execRestoreTimerExpiry (g : GroupId) (s : State) : Host.Outcome State Fault Refusal :=
  event (fun s => s.restoreExpiry g) s

/-! ## Orders -/

/-- SET_FAULTIN (R112): in IDLE; the source is inactive after it. -/
def ownSetFaultin (f : FaultinFields) (s : State) : Answer :=
  if s.mode ≠ .idle then refuse s .wrongMode
  else
    let s1 := s.setFaultIn f.input
      { activeLevel := f.activeLevel, period := f.period, depth := f.depth, filtered := f.activeLevel.other, run := 0,
        nextSample := after s.now f.period }
    { state := if (s.faultIn f.input).active then s1.sourceChange (inputMask f.input) else s1, body := .code .ok }

/-- SET_FAULTIN. -/
def execSetFaultin (seq : Byte) (body : List Byte) (s : State) : Host.Outcome State Fault Refusal :=
  order 0x60 decodeSetFaultin ownSetFaultin seq body s

/-- SET_RAIL (R115): in IDLE, with the low limit below the high limit; both sources are inactive after it. -/
def ownSetRail (f : RailFields) (s : State) : Answer :=
  if s.mode ≠ .idle then refuse s .wrongMode
  else if f.high ≤ f.low then refuse s .badField
  else
    { state :=
        s.setRailMonitor
          { enable := f.enable, low := f.low, high := f.high, depth := f.depth, lastSample := s.rail.lastSample,
            lowRun := 0, highRun := 0, lowActive := false, highActive := false,
            nextSample := if f.enable then after s.now Config.railPeriod else 0 }
      body := .code .ok }

/-- SET_RAIL. -/
def execSetRail (seq : Byte) (body : List Byte) (s : State) : Host.Outcome State Fault Refusal :=
  order 0x61 decodeSetRail ownSetRail seq body s

/-- The evaluation of a group at its new configuration (R127). -/
def State.reviewGroup (s : State) (g : GroupId) : State :=
  match (s.group g).state, s.groupClear g, (s.group g).releaseMode with
  | .normal, true, _ => s
  | .normal, false, _ => s.tripStart g
  | .tripped, true, .auto => s.startRestore g
  | .tripped, _, _ => s
  | .releasing, true, .auto => s.startRestore g
  | .releasing, _, _ => s.backToTripped g

/-- SET_TGROUP (R127): in IDLE; the host-trip flag stays, and the group is evaluated before the reply, which carries its
state (log 14: R127 over R175's row for every other order). -/
def ownSetTgroup (f : TgroupFields) (s : State) : Answer :=
  if s.mode ≠ .idle then refuse s .wrongMode
  else
    let s1 := s.setGroup f.group
      { s.group f.group with
        sources := f.sources, releaseMode := f.releaseMode, restoreDelay := f.restoreDelay, policy := f.policy }
    let s2 := s1.reviewGroup f.group
    { state := s2, body := .groupState (s2.group f.group).state }

/-- SET_TGROUP. -/
def execSetTgroup (seq : Byte) (body : List Byte) (s : State) : Host.Outcome State Fault Refusal :=
  order 0x62 decodeSetTgroup ownSetTgroup seq body s

/-- The host-trip flag of a group is set; where it was clear, a source change of HOST for that group (R117, R124). -/
def State.hostTrip (s : State) (g : GroupId) : State :=
  if (s.group g).hostTrip then s else (s.setGroup g { s.group g with hostTrip := true }).evalGroup g

/-- TRIP (R124): the groups named, in ascending order. -/
def ownTrip (mask : BitVec 4) (s : State) : Answer :=
  let s1 := allGroups.foldl (fun s g => if mask.getLsbD g.val then s.hostTrip g else s) s
  { state := s1, body := .trip (allGroups.map fun g => (s1.group g).state) }

/-- TRIP. -/
def execTrip (seq : Byte) (body : List Byte) (s : State) : Host.Outcome State Fault Refusal :=
  order 0x63 decodeTrip ownTrip seq body s

/-- What an accepted RELEASE does (R125): the host-trip flag is cleared; in MANUAL the group reaches NORMAL; in AUTO a
TRIPPED group takes the change of HOST where the flag was set. -/
def State.releaseOrder (s : State) (g : GroupId) : State :=
  let x := s.group g
  let s1 := s.setGroup g { x with hostTrip := false }
  match x.releaseMode with
  | .manual => s1.releaseGroup g .order
  | .auto => if x.hostTrip then s1.evalGroup g else s1

/-- RELEASE (R125). -/
def ownRelease (g : GroupId) (s : State) : Answer :=
  if (s.group g).state = .normal then refuse s .notTripped
  else if (s.group g).releaseMode = .manual ∧ s.activeConfigured g ≠ 0 then
    { state := s, body := .sourcesActive (s.activeConfigured g) }
  else
    let s1 := s.releaseOrder g
    { state := s1, body := .groupState (s1.group g).state }

/-- RELEASE. -/
def execRelease (seq : Byte) (body : List Byte) (s : State) : Host.Outcome State Fault Refusal :=
  order 0x64 decodeGroup ownRelease seq body s

/-- TRIP_READ (R126). -/
def ownTripRead (g : GroupId) (s : State) : Answer :=
  let x := s.group g
  { state := s
    body := .tripRead
      { state := x.state, sources := x.sources, activeSources := s.activeWatched g, hostTrip := x.hostTrip,
        releaseMode := x.releaseMode, restoreDelay := x.restoreDelay, policy := x.policy,
        timeLeft := (timeLeft s.now x.restoreTimer).getD 0, members := s.groupMembers g } }

/-- TRIP_READ. -/
def execTripRead (seq : Byte) (body : List Byte) (s : State) : Host.Outcome State Fault Refusal :=
  order 0x65 decodeGroup ownTripRead seq body s

end Sys2Proof.Machine
end

