-- ==== Sys2Proof/Machine/Modes.lean ====
section
/-! DEFINITION. Mode Control (chapter 7): the mode orders START, STOP, PAUSE, RESUME, and STATUS. -/

namespace Sys2Proof.Machine

/-- A change of mode (R129): every channel takes the report, then the Cam Unit. -/
def State.changeMode (s : State) (m : Mode) : State :=
  (State.reportAll { s with mode := m } allOutputs).camModeReport

/-- START (R131): in IDLE, to RUN; the reply lists the held outputs. -/
def ownStart (_ : Unit) (s : State) : Answer :=
  if s.mode ≠ .idle then refuse s .wrongMode
  else
    let s1 := s.changeMode .run
    { state := s1, body := .held s1.heldOutputs }

/-- START. -/
def execStart (seq : Byte) (body : List Byte) (s : State) : Host.Outcome State Fault Refusal :=
  order 0x10 decodeEmpty ownStart seq body s

/-- STOP (R135): in RUN or PAUSED, to IDLE; then every queue is purged. -/
def ownStop (_ : Unit) (s : State) : Answer :=
  if s.mode = .idle then refuse s .wrongMode
  else
    let r := (s.changeMode .idle).purgeQueues allOutputs
    { state := r.2, body := .purged r.1 }

/-- STOP. -/
def execStop (seq : Byte) (body : List Byte) (s : State) : Host.Outcome State Fault Refusal :=
  order 0x11 decodeEmpty ownStop seq body s

/-- PAUSE (R132): in RUN, to PAUSED. -/
def ownPause (_ : Unit) (s : State) : Answer :=
  if s.mode ≠ .run then refuse s .wrongMode
  else { state := s.changeMode .paused, body := .code .ok }

/-- PAUSE. -/
def execPause (seq : Byte) (body : List Byte) (s : State) : Host.Outcome State Fault Refusal :=
  order 0x12 decodeEmpty ownPause seq body s

/-- RESUME (R134): in PAUSED, to RUN; the reply lists the held outputs. -/
def ownResume (_ : Unit) (s : State) : Answer :=
  if s.mode ≠ .paused then refuse s .wrongMode
  else
    let s1 := s.changeMode .run
    { state := s1, body := .held s1.heldOutputs }

/-- RESUME. -/
def execResume (seq : Byte) (body : List Byte) (s : State) : Host.Outcome State Fault Refusal :=
  order 0x13 decodeEmpty ownResume seq body s

/-- STATUS (R140). -/
def ownStatus (_ : Unit) (s : State) : Answer :=
  { state := s
    body := .status
      { mode := s.mode, resetCause := s.resetCause, tracker := s.tracker.state,
        groups := allGroups.map fun g => (s.group g).state, sources := s.statusSources, rail := s.rail.lastSample,
        poolUse := s.poolUse, noticeFill := s.notices.waiting.length, nextNotice := s.notices.next, now := s.now } }

/-- STATUS. -/
def execStatus (seq : Byte) (body : List Byte) (s : State) : Host.Outcome State Fault Refusal :=
  order 0x02 decodeEmpty ownStatus seq body s

end Sys2Proof.Machine
end

