-- ==== Sys2Proof/Machine/DriveOrders.lean ====
section
/-! DEFINITION. The orders that reach a channel directly (chapter 2): SET_PROFILE, MANUAL, CHANNEL. -/

namespace Sys2Proof.Machine

/-- The recover timer under a new min off-time (R19): a running timer whose min off-time changes moves with it, and
stops where its new expiry is due; a stopped timer starts where a raised min off-time has not yet passed. -/
def Channel.recoverUnder (c : Channel) (now : Time) (old new : Nat) : Option Time :=
  match c.recoverTimer, c.lastStop with
  | some e, some stop =>
    if old = new then some e else if due now (after stop new) then none else some (after stop new)
  | some e, none => some e
  | none, some stop => if old < new ∧ (now - stop).toNat < new then some (after stop new) else none
  | none, none => none

/-- Whether a cam table holds a window for an output (R19). -/
def CamTable.serves (t : CamTable) (o : Output) : Bool := (CamTable.findFor t o fun _ => true).isSome

/-- SET_PROFILE (R19). -/
def ownSetProfile (f : Output × Profile) (s : State) : Answer :=
  let (o, p) := f
  let old := s.profile o
  if s.mode ≠ .idle then refuse s .wrongMode
  else if p.source = .cam ∧ s.tracker.cycleLength = 0 then refuse s .noAngle
  else if old.source = .cam ∧ p.source ≠ .cam ∧
      (CamTable.serves s.cam.active o ∨ CamTable.serves s.cam.shadow o) then
    refuse s .inUse
  else
    { state :=
        (s.setProfile o p).setChan o
          { s.chan o with recoverTimer := (s.chan o).recoverUnder s.now old.minOff p.minOff }
      body := .code .ok }

/-- SET_PROFILE. -/
def execSetProfile (seq : Byte) (body : List Byte) (s : State) : Host.Outcome State Fault Refusal :=
  order 0x20 decodeSetProfile ownSetProfile seq body s

/-- CHANNEL (R40). -/
def ownChannel (o : Output) (s : State) : Answer :=
  let c := s.chan o
  { state := s
    body := .channel
      { state := c.state, demand := c.demand, remembered := c.remembered, manualDemand := c.manualDemand,
        driveStart := c.driveStart, lastStop := c.lastStop, boost := timeLeft s.now c.boostTimer,
        maxOn := timeLeft s.now c.maxOnTimer, recover := timeLeft s.now c.recoverTimer,
        defer := timeLeft s.now c.deferTimer, queueLength := (s.queue o).length, iset := (s.profile o).iset } }

/-- CHANNEL. -/
def execChannel (seq : Byte) (body : List Byte) (s : State) : Host.Outcome State Fault Refusal :=
  order 0x21 decodeOutput ownChannel seq body s

/-- Writes a channel's manual demand. -/
def State.setManual (s : State) (o : Output) (present : Bool) : State :=
  s.setChan o { s.chan o with manualDemand := present }

/-- What an accepted MANUAL does (R37): nothing where the manual demand stands as asked, else a demand rise or
fall. -/
def State.takeManual (s : State) (o : Output) (on : Bool) : State :=
  if (s.chan o).manualDemand = on then s
  else if on then (s.setManual o true).demandRise o .manual
  else ((s.setManual o false).demandFall o).2

/-- MANUAL (R37). -/
def ownManual (f : Output × Bool) (s : State) : Answer :=
  if s.mode ≠ .run then refuse s .wrongMode
  else if (s.profile f.1).source ≠ .manual then refuse s .wrongSource
  else if f.2 ∧ (s.chan f.1).state = .inhibited then refuse s .inhibited
  else
    let s1 := s.takeManual f.1 f.2
    { state := s1, body := .manual (s1.chan f.1).state (s1.chan f.1).manualDemand }

/-- MANUAL. -/
def execManual (seq : Byte) (body : List Byte) (s : State) : Host.Outcome State Fault Refusal :=
  order 0x22 decodeManual ownManual seq body s

end Sys2Proof.Machine
end

