-- ==== Sys2Proof/Machine/LinkUnit.lean ====
section
/-! DEFINITION. The Link Controller (chapter 8): admission, the link timer, the orders IDENT, SET_LINK and RESET, and the
answer to an unknown kind. -/

namespace Sys2Proof.Machine

/-! ## Frame arrival (R146, R149, R156) -/

/-- Admission of a CRC-good frame (R149, R150, R151). -/
def State.admission (s : State) (f : OrderFrame) : State :=
  match s.link.cache.find? fun e => f.seq ≠ 0 && e.seq = f.seq && e.crc = f.crc with
  | some e => s.placeReply ⟨e.seq, e.kind, e.body, .nothing⟩
  | none =>
    if s.link.inbox.any fun g => f.seq ≠ 0 && g.seq = f.seq && g.crc = f.crc then s
    else if Config.inboxFrames ≤ s.link.inbox.length then
      s.placeReply ⟨f.seq, replyKind f.kind, .code .inboxFull, .nothing⟩
    else { s with link := { s.link with inbox := s.link.inbox ++ [f] } }

/-- A CRC-good frame touches the link timer (R156): with a link timeout in force, the timer restarts and LINK becomes
inactive. -/
def State.touchLink (s : State) : State :=
  if s.link.timeout = 0 then s
  else
    State.setLinkActive
      { s with link := { s.link with timer := some (after s.now (msToUs s.link.timeout)) } } false

/-- A frame arrival (R146): the link timer, then admission (log 15). -/
def State.frameArrival (s : State) (f : OrderFrame) : State := s.touchLink.admission f

/-! ## The link timer (R156) -/

/-- The link timer's expiry (R156): it stops, and LINK becomes active. -/
def State.linkExpiry (s : State) : State :=
  if timerDue s.now s.link.timer then
    State.setLinkActive { s with link := { s.link with timer := none } } true
  else s

/-- LINK_TIMER_EXPIRY. -/
def execLinkTimerExpiry (s : State) : Host.Outcome State Fault Refusal := event State.linkExpiry s

/-! ## Orders -/

/-- IDENT (R159). -/
def ownIdent (_ : Unit) (s : State) : Answer := { state := s, body := .ident }

/-- IDENT. -/
def execIdent (seq : Byte) (body : List Byte) (s : State) : Host.Outcome State Fault Refusal :=
  order 0x01 decodeEmpty ownIdent seq body s

/-- SET_LINK (R157): the timeout at once, the baud code after the reply's last byte (R158). -/
def ownSetLink (f : Baud × Nat) (s : State) : Answer :=
  let timed (timer : Option Time) : State := { s with link := { s.link with timeout := f.2, timer := timer } }
  { state :=
      if f.2 = 0 then (timed none).setLinkActive false else timed (some (after s.now (msToUs f.2)))
    body := .setLink f.1 f.2
    bound := .baud f.1 }

/-- SET_LINK. -/
def execSetLink (seq : Byte) (body : List Byte) (s : State) : Host.Outcome State Fault Refusal :=
  order 0x04 decodeSetLink ownSetLink seq body s

/-- RESET (R139): the decoder takes no further order; the reset follows the reply's last byte. -/
def ownReset (_ : Unit) (s : State) : Answer :=
  { state := { s with link := { s.link with halted := true } }, body := .code .ok, bound := .reset }

/-- RESET. -/
def execReset (seq : Byte) (body : List Byte) (s : State) : Host.Outcome State Fault Refusal :=
  order 0x05 decodeEmpty ownReset seq body s

/-- A frame of an unknown kind (R171): UNKNOWN_KIND. A known kind is no such frame, and the command does nothing. -/
def execUnknownOrder (seq kind : Byte) (body : List Byte) (s : State) : Host.Outcome State Fault Refusal :=
  if kindKnown kind then .next s
  else order kind (fun _ => .error .unknownKind) (fun (_ : Unit) s => refuse s .unknownKind) seq body s

end Sys2Proof.Machine
end

