-- ==== Sys2Proof/Machine/Decoder.lean ====
section
/-! DEFINITION. The Order Decoder's turn (R152), and the framer's events (R144 to R148), which admit frames and so set it
off. -/

namespace Sys2Proof.Machine

/-! ## The decoder's turn (R152) -/

/-- The taking of a frame: the order its KIND names. -/
def takeFrame (f : OrderFrame) (s : State) : Host.Outcome State Fault Refusal :=
  match f.kind.toNat with
  | 0x01 => execIdent f.seq f.body s
  | 0x02 => execStatus f.seq f.body s
  | 0x03 => execTime f.seq f.body s
  | 0x04 => execSetLink f.seq f.body s
  | 0x05 => execReset f.seq f.body s
  | 0x10 => execStart f.seq f.body s
  | 0x11 => execStop f.seq f.body s
  | 0x12 => execPause f.seq f.body s
  | 0x13 => execResume f.seq f.body s
  | 0x20 => execSetProfile f.seq f.body s
  | 0x21 => execChannel f.seq f.body s
  | 0x22 => execManual f.seq f.body s
  | 0x30 => execShot f.seq f.body s
  | 0x31 => execShots f.seq f.body s
  | 0x32 => execCancel f.seq f.body s
  | 0x33 => execQueueRead f.seq f.body s
  | 0x40 => execSetAngle f.seq f.body s
  | 0x41 => execSetCycle f.seq f.body s
  | 0x42 => execCamPut f.seq f.body s
  | 0x43 => execCamDrop f.seq f.body s
  | 0x44 => execCamClear f.seq f.body s
  | 0x45 => execCamCopy f.seq f.body s
  | 0x46 => execCamCommit f.seq f.body s
  | 0x47 => execCamAbort f.seq f.body s
  | 0x48 => execCamRead f.seq f.body s
  | 0x50 => execSetIset f.seq f.body s
  | 0x51 => execIsetRead f.seq f.body s
  | 0x52 => execSetConflict f.seq f.body s
  | 0x53 => execConflictRead f.seq f.body s
  | 0x60 => execSetFaultin f.seq f.body s
  | 0x61 => execSetRail f.seq f.body s
  | 0x62 => execSetTgroup f.seq f.body s
  | 0x63 => execTrip f.seq f.body s
  | 0x64 => execRelease f.seq f.body s
  | 0x65 => execTripRead f.seq f.body s
  | _ => execUnknownOrder f.seq f.kind f.body s

/-- The state that the taking of a frame leaves. -/
def State.afterTaking (s : State) (f : OrderFrame) : State :=
  match takeFrame f s with
  | .next t => t
  | .fault _ => s
  | .refused _ => s

/-- The decoder's takings, one after the other, each an event of its own, while it may take one; at most so many. -/
def State.takeFrames : Nat → State → State
  | 0, s => s
  | n + 1, s =>
    match s.link.inbox with
    | [] => s
    | f :: _ => if s.decoderReady then State.takeFrames n (s.afterTaking f) else s

/-- What an event sets off at once, where it admits a frame or lets a reply leave the reply queue (R152): the decoder takes
the frames of the inbox, oldest first, until none is left or it may take none (log 2). -/
def State.settle (s : State) : State := s.takeFrames s.link.inbox.length

/-! ## The framer (R144 to R148) -/

/-- The frames found in one event arrive in order, and then the decoder takes what it may (log 9). -/
def State.arrive (s : State) (frames : List OrderFrame) : State :=
  if frames.isEmpty then s else (frames.foldl State.frameArrival s).settle

/-- What a scan of bytes leaves: its candidate, with the gap timer from now where it holds one, and its frames, which
arrive. -/
def State.takeScan (s : State) (found : List OrderFrame × List Byte) : State :=
  State.arrive
    { s with link := { s.link with
        candidate := found.2
        gapTimer := if found.2.isEmpty then none else some (after s.now Config.gapLimit) } }
    found.1

/-- A byte arrival (R145, R147): a data byte goes on with the candidate; a stop-bit error ends it. -/
def State.byteArrival (s : State) : RxByte → State
  | .data b => s.takeScan (scan false (s.link.candidate ++ [b]))
  | .stopError => s.takeScan (scan true s.link.candidate)

/-- The gap timer's expiry (R148) ends the candidate. -/
def State.gapExpiry (s : State) : State :=
  if timerDue s.now s.link.gapTimer then s.takeScan (scan true s.link.candidate) else s

/-- BYTE_ARRIVAL. -/
def execByteArrival (rx : RxByte) (s : State) : Host.Outcome State Fault Refusal := event (fun s => s.byteArrival rx) s

/-- GAP_TIMER_EXPIRY. -/
def execGapTimerExpiry (s : State) : Host.Outcome State Fault Refusal := event State.gapExpiry s

end Sys2Proof.Machine
end

