-- ==== Sys2Proof/Machine/Resets.lean ====
section
/-! DEFINITION. The end of an outgoing frame (R154, R158, R139) and the resets (R137, R138, R164). -/

namespace Sys2Proof.Machine

/-- The start of a POWER or LINE reset (R137): what was in flight is gone, every block stands at its values after
reset, nothing is sent and no notice waits. The reset cause changes at the end. -/
def State.holdReset (s : State) : State :=
  { s.afterReset s.resetCause .b115200 with notices := { waiting := [], next := 0 } }

/-- The end of a reset (R137, R164): every block at its values after reset, STARTED posted, and the arbiter begins
it (R154). -/
def State.endReset (s : State) (cause : ResetCause) (baud : Baud) : State := (s.afterReset cause baud).pump

/-- Writes the supply pin. -/
def State.setSupply (s : State) (settled : Bool) : State := { s with pins := { s.pins with supplySettled := settled } }

/-- Writes the nRST pin. -/
def State.setNrst (s : State) (level : Level) : State := { s with pins := { s.pins with nrst := level } }

/-- The supply falls below its operating level: a POWER reset begins (R137, R138). -/
def State.supplyFail (s : State) : State := (s.setSupply false).holdReset

/-- The supply has settled: the reset ends as a POWER reset, unless nRST is low and keeps it going (R138). A supply
that had settled before gives no event. -/
def State.supplySettled (s : State) : State :=
  if s.pins.supplySettled then s
  else if s.pins.nrst = .low then s.setSupply true
  else (s.setSupply true).endReset .power .b115200

/-- nRST goes low: a LINE reset begins (R137, R138). -/
def State.nrstLow (s : State) : State := if s.pins.nrst = .low then s else (s.setNrst .low).holdReset

/-- nRST goes high: the reset ends as a LINE reset, unless the supply has not settled (R138). -/
def State.nrstHigh (s : State) : State :=
  if s.pins.nrst = .high then s
  else if s.pins.supplySettled then (s.setNrst .high).endReset .line .b115200
  else s.setNrst .high

/-- SUPPLY_FAIL. -/
def execSupplyFail (s : State) : Host.Outcome State Fault Refusal := .next s.supplyFail

/-- SUPPLY_SETTLED. -/
def execSupplySettled (s : State) : Host.Outcome State Fault Refusal := .next s.supplySettled

/-- NRST_LOW. -/
def execNrstLow (s : State) : Host.Outcome State Fault Refusal := .next s.nrstLow

/-- NRST_HIGH. -/
def execNrstHigh (s : State) : Host.Outcome State Fault Refusal := .next s.nrstHigh

/-- A baud change (R158): where the code differs, the framer loses its candidate without a rescan. -/
def State.changeBaud (s : State) (b : Baud) : State :=
  if b = s.link.baud then s
  else { s with link := { s.link with baud := b, candidate := [], gapTimer := none } }

/-- The last byte of the frame being sent has gone (R154): what it sets off happens, and the arbiter chooses the next
frame; a reply that leaves its queue lets the decoder take an order (R152). Where nothing is being sent there is no such
event. -/
def State.frameSent (s : State) : State :=
  match s.link.tx with
  | none => s
  | some t =>
    let s1 : State := { s with link := { s.link with tx := none } }
    match t.bound with
    | .nothing => s1.pump.settle
    | .baud b => (s1.changeBaud b).pump.settle
    | .reset => s1.endReset .order s.link.baud

/-- FRAME_SENT. -/
def execFrameSent (s : State) : Host.Outcome State Fault Refusal := event State.frameSent s

end Sys2Proof.Machine
end

