-- ==== Sys2Proof/Machine/Tick.lean ====
section
/-! DEFINITION. What the part does while no command waits (log 2): one microsecond passes, and the Time Base raises the
events that have come due (R1, R2). -/

namespace Sys2Proof.Machine

/-- A channel's hold phase one microsecond on (R22). -/
def Channel.tick (c : Channel) : Channel :=
  if c.state = .hold then { c with holdPhase := (c.holdPhase + 1) % Config.holdPeriod } else c

/-- The frame being sent one microsecond on, at the rate of the baud code (R142; log 8). -/
def Transmission.tick (t : Transmission) (b : Baud) : Transmission := { t with progress := t.progress + b.rate }

/-- One microsecond passes (R1). -/
def State.advance (s : State) : State :=
  { s with
    now := s.now + 1
    channels := s.channels.map Channel.tick
    link := { s.link with tx := s.link.tx.map fun t => t.tick s.link.baud } }

/-- A command where a condition holds. -/
def raise (c : Bool) (i : Instr) : List Instr := if c then [i] else []

/-- The due events of an output's channel timers. -/
def State.channelEvents (s : State) (o : Output) : List Instr :=
  let c := s.chan o
  raise (timerDue s.now c.boostTimer) (.boostTimerExpiry o) ++ raise (timerDue s.now c.maxOnTimer) (.maxOnTimerExpiry o) ++
    raise (timerDue s.now c.recoverTimer) (.recoverTimerExpiry o) ++
    raise (timerDue s.now c.deferTimer) (.deferTimerExpiry o)

/-- The due events of an entry, by its state (R42, R51, R52). -/
def Entry.events (e : Entry) (now : Time) (o : Output) : List Instr :=
  match e.state with
  | .waiting => raise (due now e.start) (.shotStartDue o e.start)
  | .late => raise (due now e.dropTime) (.shotDropDue o e.start)
  | .active d => raise (due now (after d e.duration)) (.shotEndDue o)
  | .deferred => []

/-- The due event of a fault input's sampling, with the level its pin holds. -/
def State.faultEvents (s : State) (i : InputId) : List Instr :=
  raise (due s.now (s.faultIn i).nextSample) (.faultSample i (rd s.pins.faults i))

/-- The due event of the rail's sampling. -/
def State.railEvents (s : State) : List Instr :=
  raise (s.rail.enable && due s.now s.rail.nextSample) (.railSample s.pins.rail)

/-- The due event of a group's restore timer. -/
def State.groupEvents (s : State) (g : GroupId) : List Instr :=
  raise (timerDue s.now (s.group g).restoreTimer) (.restoreTimerExpiry g)

/-- Whether a frame's last byte has gone (R155; log 8). -/
def State.txDone (s : State) : Bool :=
  match s.link.tx with
  | some t => t.frame.lineTime ≤ t.progress
  | none => false

/-- Every event that has come due (R2). -/
def State.dueEvents (s : State) : List Instr :=
  raise (timerDue s.now s.link.gapTimer) .gapTimerExpiry ++ raise (timerDue s.now s.link.timer) .linkTimerExpiry ++
    raise s.txDone .frameSent ++ raise (timerDue s.now s.tracker.stallTimer) .stallTimerExpiry ++
    allOutputs.flatMap s.channelEvents ++
    allOutputs.flatMap (fun o => (s.queue o).flatMap fun e => e.events s.now o) ++
    allInputs.flatMap s.faultEvents ++ s.railEvents ++ allGroups.flatMap s.groupEvents

/-- Whether an event is a sample that changes no source: it touches its own filter or monitor alone. -/
def State.inert (s : State) : Instr → Bool
  | .faultSample i level => ((s.faultIn i).sample level).filtered = (s.faultIn i).filtered
  | .railSample v => railMask s.rail (s.rail.sample (clampRail v)) = 0
  | _ => false

/-- Whether a due event may set off the taking of orders (R152), which read and write the filters and the rail monitor
(STATUS, SET_FAULTIN, SET_RAIL): no sample commutes with it. -/
def setsOffOrders : Instr → Bool
  | .frameSent => true
  | .gapTimerExpiry => true
  | _ => false

/-- The due events that are taken first, in the order of the list: the inert samples where no event sets off orders, since
they then commute with every other due event (log 4). -/
def State.early (s : State) (events : List Instr) (c : Instr) : Bool := s.inert c && !events.any setsOffOrders

/-- One microsecond passes, and the due events wait to be taken: those that commute with all the others first, the others
in an order the world takes (log 4). -/
def State.tick (s : State) : State :=
  let s1 := s.advance
  let events := s1.dueEvents
  let r := arrange (events.filter fun c => !s1.early events c) s1
  { r.2 with pending := events.filter (s1.early events) ++ r.1 }

/-- What the part does while no command waits: nothing while a reset lasts (R137); the Order Decoder's taking of the
oldest frame, where it may take one (R152), which no run leaves to be done here (OrdersTaken, log 2); else one
microsecond. -/
def State.idle (s : State) : State :=
  if s.inReset then s
  else
    match s.link.inbox with
    | f :: _ => if s.decoderReady then { s with pending := [orderCommand f] } else s.tick
    | [] => s.tick

end Sys2Proof.Machine
end

