-- ==== Sys2Proof/Machine/Dispatch.lean ====
section
/-! DEFINITION. The meaning of each command: one arm per constructor of Instr. -/

namespace Sys2Proof.Machine

/-- The effect of a command on everything but the queue. -/
def exec (i : Instr) (s : State) : Host.Outcome State Fault Refusal :=
  match i with
  | .ident seq body => Sys2Proof.Machine.execIdent seq body s
  | .status seq body => Sys2Proof.Machine.execStatus seq body s
  | .time seq body => Sys2Proof.Machine.execTime seq body s
  | .setLink seq body => Sys2Proof.Machine.execSetLink seq body s
  | .reset seq body => Sys2Proof.Machine.execReset seq body s
  | .start seq body => Sys2Proof.Machine.execStart seq body s
  | .stop seq body => Sys2Proof.Machine.execStop seq body s
  | .pause seq body => Sys2Proof.Machine.execPause seq body s
  | .resume seq body => Sys2Proof.Machine.execResume seq body s
  | .setProfile seq body => Sys2Proof.Machine.execSetProfile seq body s
  | .channel seq body => Sys2Proof.Machine.execChannel seq body s
  | .manual seq body => Sys2Proof.Machine.execManual seq body s
  | .shot seq body => Sys2Proof.Machine.execShot seq body s
  | .shots seq body => Sys2Proof.Machine.execShots seq body s
  | .cancel seq body => Sys2Proof.Machine.execCancel seq body s
  | .queueRead seq body => Sys2Proof.Machine.execQueueRead seq body s
  | .setAngle seq body => Sys2Proof.Machine.execSetAngle seq body s
  | .setCycle seq body => Sys2Proof.Machine.execSetCycle seq body s
  | .camPut seq body => Sys2Proof.Machine.execCamPut seq body s
  | .camDrop seq body => Sys2Proof.Machine.execCamDrop seq body s
  | .camClear seq body => Sys2Proof.Machine.execCamClear seq body s
  | .camCopy seq body => Sys2Proof.Machine.execCamCopy seq body s
  | .camCommit seq body => Sys2Proof.Machine.execCamCommit seq body s
  | .camAbort seq body => Sys2Proof.Machine.execCamAbort seq body s
  | .camRead seq body => Sys2Proof.Machine.execCamRead seq body s
  | .setIset seq body => Sys2Proof.Machine.execSetIset seq body s
  | .isetRead seq body => Sys2Proof.Machine.execIsetRead seq body s
  | .setConflict seq body => Sys2Proof.Machine.execSetConflict seq body s
  | .conflictRead seq body => Sys2Proof.Machine.execConflictRead seq body s
  | .setFaultin seq body => Sys2Proof.Machine.execSetFaultin seq body s
  | .setRail seq body => Sys2Proof.Machine.execSetRail seq body s
  | .setTgroup seq body => Sys2Proof.Machine.execSetTgroup seq body s
  | .trip seq body => Sys2Proof.Machine.execTrip seq body s
  | .release seq body => Sys2Proof.Machine.execRelease seq body s
  | .tripRead seq body => Sys2Proof.Machine.execTripRead seq body s
  | .unknownOrder seq kind body => Sys2Proof.Machine.execUnknownOrder seq kind body s
  | .byteArrival rx => Sys2Proof.Machine.execByteArrival rx s
  | .gapTimerExpiry => Sys2Proof.Machine.execGapTimerExpiry s
  | .linkTimerExpiry => Sys2Proof.Machine.execLinkTimerExpiry s
  | .frameSent => Sys2Proof.Machine.execFrameSent s
  | .supplyFail => Sys2Proof.Machine.execSupplyFail s
  | .supplySettled => Sys2Proof.Machine.execSupplySettled s
  | .nrstLow => Sys2Proof.Machine.execNrstLow s
  | .nrstHigh => Sys2Proof.Machine.execNrstHigh s
  | .encPulse => Sys2Proof.Machine.execEncPulse s
  | .idxIndex => Sys2Proof.Machine.execIdxIndex s
  | .stallTimerExpiry => Sys2Proof.Machine.execStallTimerExpiry s
  | .boostTimerExpiry output => Sys2Proof.Machine.execBoostTimerExpiry output s
  | .maxOnTimerExpiry output => Sys2Proof.Machine.execMaxOnTimerExpiry output s
  | .recoverTimerExpiry output => Sys2Proof.Machine.execRecoverTimerExpiry output s
  | .deferTimerExpiry output => Sys2Proof.Machine.execDeferTimerExpiry output s
  | .shotStartDue output start => Sys2Proof.Machine.execShotStartDue output start s
  | .shotDropDue output start => Sys2Proof.Machine.execShotDropDue output start s
  | .shotEndDue output => Sys2Proof.Machine.execShotEndDue output s
  | .faultSample input level => Sys2Proof.Machine.execFaultSample input level s
  | .railSample rail => Sys2Proof.Machine.execRailSample rail s
  | .restoreTimerExpiry group => Sys2Proof.Machine.execRestoreTimerExpiry group s

end Sys2Proof.Machine
end

