-- ==== Sys2Proof/Safety.lean ====
section
/-! DEFINITION. What must hold of the part's state between commands, block by block: the manual's laws as predicates on
State. The obligations say that every step keeps them. -/

namespace Sys2Proof.Machine

/-! ## Orders -/

/-- The body length of each order kind but SHOTS, whose length goes with its count (R173, R174). -/
def orderBodyLength (kind : Byte) : Option Nat :=
  match kind.toNat with
  | 0x01 | 0x02 | 0x03 | 0x05 | 0x10 | 0x11 | 0x12 | 0x13 => some 0
  | 0x44 | 0x45 | 0x46 | 0x47 | 0x53 => some 0
  | 0x21 | 0x43 | 0x51 | 0x52 | 0x63 | 0x64 | 0x65 => some 1
  | 0x22 | 0x33 | 0x48 => some 2
  | 0x04 => some 3
  | 0x32 | 0x41 | 0x50 | 0x60 => some 4
  | 0x40 => some 5
  | 0x61 | 0x62 => some 6
  | 0x42 => some 7
  | 0x20 => some 12
  | 0x30 => some 14
  | _ => none

/-- The reply-cache entries after an executed order (R151): a frame with SEQ 0 makes none; a full cache loses its
oldest. -/
def cacheAfter (cache : List CacheEntry) (f : OrderFrame) (body : ReplyBody) : List CacheEntry :=
  if f.seq = 0 then cache
  else
    (if cache.length < Config.cacheEntries then cache else cache.tail) ++ [⟨f.seq, f.crc, f.kind + 0x80, body⟩]

/-- The inbox after an executed order (R152): its oldest frame has left, where that is the order's. -/
def inboxAfter (inbox : List OrderFrame) (f : OrderFrame) : List OrderFrame :=
  if inbox.head? = some f then inbox.tail else inbox

/-! ## Link and notices -/

/-- The bounds of the link's queues, of the waiting list and of the streak count (R150, R151, R153, R154, R161). -/
abbrev LinkBounds (s : State) : Prop :=
  s.link.inbox.length ≤ Config.inboxFrames ∧ s.link.replies.length ≤ Config.replyFrames ∧
    s.link.cache.length ≤ Config.cacheEntries ∧ s.notices.waiting.length ≤ Config.noticePlaces ∧
    s.link.streak ≤ Config.streakLimit

/-- The transmitter is idle only while nothing waits to be sent (R154). -/
abbrev NothingHeldBack (s : State) : Prop :=
  s.link.tx = none → s.link.replies = [] ∧ s.notices.waiting = []

/-- No order waits in the inbox while the decoder may take one (R152): what an event sets off is done in its step. -/
abbrev OrdersTaken (s : State) : Prop := s.decoderReady = true → s.link.inbox = []

/-- A running link timer means a nonzero link timeout, and LINK is active only with one (R156). -/
abbrev LinkTimed (s : State) : Prop :=
  s.link.timeout = 0 → s.link.timer = none ∧ s.link.linkActive = false

/-! ## Shot Scheduler -/

/-- The bounds of the pool and of each queue (R41). -/
abbrev PoolBounds (s : State) : Prop :=
  s.poolUse ≤ Config.poolEntries ∧ ∀ o : Output, (s.queue o).length ≤ Config.queueEntries

/-- Behind the head, no entry of a queue is DEFERRED or ACTIVE (R42). -/
abbrev tailUnserved (q : List Entry) : Prop := ∀ e ∈ q.tail, e.served = false

/-- Only the head of a queue is DEFERRED or ACTIVE (R42). -/
abbrev OnlyHeadServed (s : State) : Prop := ∀ o : Output, tailUnserved (s.queue o)

/-- A queue holds entries only outside IDLE and only while its output's source is SHOT (R41). -/
abbrev QueuesPlaced (s : State) : Prop :=
  ∀ o : Output, s.queue o ≠ [] → s.mode ≠ .idle ∧ (s.profile o).source = .shot

/-! ## Interlock Unit and channels -/

/-- A set's occupants are its members in BOOST or HOLD, in ascending order and no more than its capacity; its grant
list holds its members in QUEUED, each once; and a set whose grant list is not empty is full (R91, R94, R97). -/
abbrev SetRight (s : State) (i : SetId) : Prop :=
  (∀ o, o ∈ (s.iset i).occupants ↔ (s.profile o).iset = some i ∧ (s.chan o).driving = true) ∧
    (∀ o, o ∈ (s.iset i).grants ↔ (s.profile o).iset = some i ∧ (s.chan o).state = .queued) ∧
    (s.iset i).occupants.Pairwise (· < ·) ∧ (s.iset i).grants.Nodup ∧
    (s.iset i).occupants.length ≤ (s.iset i).capacity ∧
    ((s.iset i).grants ≠ [] → (s.iset i).occupants.length = (s.iset i).capacity)

/-- A channel stands in QUEUED only with a set in its profile (R24). -/
abbrev QueuedHasSet (s : State) : Prop :=
  ∀ o, (s.chan o).state = .queued → (s.profile o).iset ≠ none

/-- A channel stands in INHIBITED exactly while its inhibit condition holds (R21). -/
abbrev InhibitRight (s : State) : Prop :=
  ∀ o, (s.chan o).state = .inhibited ↔ s.inhibitCondition o = true

/-- The interlock sets, the grant lists and the inhibits stand as the manual says. -/
abbrev DriveRight (s : State) : Prop := (∀ i, SetRight s i) ∧ QueuedHasSet s ∧ InhibitRight s

/-- A channel's record by its state (R20, R24 to R36): which timers run, whether a demand is present, and that the min
off-time has passed wherever a drive may begin. -/
abbrev Channel.right (c : Channel) : Prop :=
  (c.demand.isSome ↔ c.state = .queued ∨ c.state = .boost ∨ c.state = .hold ∨ c.state = .overtime) ∧
    (c.remembered.isSome → c.state = .recover) ∧
    (c.boostTimer.isSome ↔ c.state = .boost) ∧ (c.maxOnTimer.isSome → c.driving = true) ∧
    (c.deferTimer.isSome ↔ c.state = .queued) ∧ (c.driving = true → c.driveStart.isSome) ∧
    (c.state = .recover → c.recoverTimer.isSome) ∧
    (c.state = .off ∨ c.state = .queued ∨ c.driving = true → c.recoverTimer = none) ∧
    (c.recoverTimer.isSome → c.lastStop.isSome)

/-- The sets and every channel's record stand as the manual says. -/
abbrev ChannelsRight (s : State) : Prop := DriveRight s ∧ ∀ o, (s.chan o).right

/-! ## Angle Tracker and Cam Unit -/

/-- The tracker's record (R4, R8, R11): OFF exactly with L 0; the position 0 outside SYNCED and STALLED and the pulse
count held at L - 1 within them; the pulse count's range; the stall timer only in SYNCED with a stall timeout. -/
abbrev Tracker.right (t : Tracker) : Prop :=
  (t.state = .off ↔ t.cycleLength = 0) ∧ (t.cycleLength ≠ 0 → 4 * t.tolerance < t.cycleLength) ∧
    (t.state ≠ .synced ∧ t.state ≠ .stalled → t.position = 0) ∧
    (t.state = .synced ∨ t.state = .stalled →
      t.position = min t.pulses (t.cycleLength - 1) ∧ t.pulses ≤ t.cycleLength + t.tolerance) ∧
    t.pulses ≤ t.cycleLength + t.tolerance + 1 ∧
    (t.stallTimer.isSome → t.state = .synced ∧ t.stallTimeout ≠ 0)

/-- A commit is pending only in RUN with the tracker SYNCED or STALLED (R76, R86, R87). -/
abbrev CommitRight (s : State) : Prop :=
  s.cam.commitPending = true → s.mode = .run ∧ s.tracker.state.tracking = true

/-- A pass is present only in RUN with the tracker SYNCED, on an output with source CAM (R80, R85, R87). -/
abbrev PassesPlaced (s : State) : Prop :=
  ∀ o, (s.pass o).isSome → s.mode = .run ∧ s.tracker.state = .synced ∧ (s.profile o).source = .cam

/-- The windows of a table serve outputs with source CAM, their angles lie below L and differ, and their phases lie
below their divisors, which are 1 to 8 (R68, R71, R16, R19). -/
abbrev WindowsRight (s : State) (t : CamTable) : Prop :=
  ∀ i w, rd t i = some w →
    (s.profile w.output).source = .cam ∧ w.onAngle < s.tracker.cycleLength ∧ w.offAngle < s.tracker.cycleLength ∧
      w.onAngle ≠ w.offAngle ∧ 1 ≤ w.divisor ∧ w.divisor ≤ 8 ∧ w.phase < w.divisor

/-- Both tables hold such windows. -/
abbrev TablesRight (s : State) : Prop := WindowsRight s s.cam.active ∧ WindowsRight s s.cam.shadow

/-- No two windows of a table conflict (R70, R71). -/
abbrev NoConflicts (l : Nat) (t : CamTable) : Prop :=
  ∀ i j v w, rd t i = some v → rd t j = some w → i ≠ j → windowsConflict l v w = false

/-- Neither table holds windows that conflict, under the cycle length in force. -/
abbrev TablesDisjoint (s : State) : Prop :=
  NoConflicts s.tracker.cycleLength s.cam.active ∧ NoConflicts s.tracker.cycleLength s.cam.shadow

/-! ## Trip Unit -/

/-- The filters of the fault inputs and of the rail monitor: a depth of 1 or more, run counts below it, the rail's
last sample at most 600 (R109, R110, R113, R114). -/
abbrev FiltersRight (s : State) : Prop :=
  (∀ i, 1 ≤ (s.faultIn i).depth ∧ (s.faultIn i).run < (s.faultIn i).depth) ∧
    1 ≤ s.rail.depth ∧ s.rail.lowRun < s.rail.depth ∧ s.rail.highRun < s.rail.depth ∧ s.rail.lastSample ≤ 600

/-- A group by its state (R118, R119, R121): in NORMAL it is clear; in TRIPPED under AUTO it is not; in RELEASING it is
clear and under AUTO; and its restore timer runs exactly in RELEASING. -/
abbrev GroupsRight (s : State) : Prop :=
  ∀ g, ((s.group g).restoreTimer.isSome ↔ (s.group g).state = .releasing) ∧
    ((s.group g).state = .normal → s.groupClear g = true) ∧
    ((s.group g).state = .tripped → (s.group g).releaseMode = .auto → s.groupClear g = false) ∧
    ((s.group g).state = .releasing → (s.group g).releaseMode = .auto ∧ s.groupClear g = true)

end Sys2Proof.Machine
end

