-- ==== Sys2Proof/Certificates/Slice0/Obligations.lean ====
section
/-! DEFINITION. The statements for the provers: the manual's rules as propositions about `exec` and `step`. Every order
is stated as answered: `s.answer f body bound` is the state after the reply `body` to the frame `f` has been placed
(AnswerPlacesReply). -/

section

open Sys2Proof Sys2Proof.Machine

/-! ## The machine -/

/-- A step takes the command at the front of the queue and runs it with the queue's rest. -/
def Obligations.FrontCommandRuns : Prop :=
  ∀ (c : Instr) (rest : List Instr) (s : State),
    step { s with pending := c :: rest } = exec c { s with pending := rest }

/-- Every command answers a next state and leaves the queue of commands as it was. -/
def Obligations.EveryCommandGoesOn : Prop :=
  ∀ (c : Instr) (s : State), ∃ t, exec c s = .next t ∧ t.pending = s.pending

/-- With no command waiting, the step is the model's choice (log 2): in a reset nothing; else the taking of the oldest
order of the inbox, where the decoder may take one (R152); else one microsecond (R1), after which every event that has
come due (R2) waits in the queue, in an order the world takes. A microsecond moves now, the hold phase within its 50 us
and the count of the bits sent at the rate of the baud code (log 8), and nothing else. The due events are those of the
timers, of the entries by their state, of the samples with what the pins show (log 5), and of a frame that has gone. A
reset lasts while the supply has not settled or nRST is low. The decoder is ready while no reset lasts, it is not halted
and fewer than eight replies wait; it takes the head of the inbox, and by the model's choice (log 1) an order command
that meets an empty inbox, while one that it does not take does nothing. What an event sets off at once: the decoder
takes the oldest frame of the inbox as its order command does, and then the rest, until it may take none (R152); that
this is part of the event's step is the model's choice (log 2). -/
def Obligations.IdleStepsGoOn : Prop :=
  (∀ s : State, s.pending = [] →
    (s.inReset = true → step s = .next s) ∧
    (∀ f rest, s.decoderReady = true → s.link.inbox = f :: rest →
      step s = .next { s with pending := [orderCommand f] }) ∧
    (s.inReset = false → s.decoderReady = false ∨ s.link.inbox = [] →
      ∃ t, step s = .next t ∧ t.now = s.now + 1 ∧ t.pending.Perm s.advance.dueEvents ∧
        t = { s.advance with pending := t.pending, choices := t.choices, picks := t.picks })) ∧
  (∀ s : State,
    s.advance =
      { s with
        now := s.now + 1
        channels := s.channels.map fun c =>
          if c.state = .hold then { c with holdPhase := (c.holdPhase + 1) % 50 } else c
        link := { s.link with tx := s.link.tx.map fun x =>
          { x with progress := x.progress +
              match s.link.baud with
              | .b115200 => 115200
              | .b230400 => 230400
              | .b460800 => 460800
              | .b921600 => 921600 } } }) ∧
  (∀ now t : Time, (due now t = true ↔ (now - t).toNat < 2 ^ 31) ∧ timerDue now (some t) = due now t ∧
    timerDue now none = false) ∧
  (∀ s : State,
    (Instr.gapTimerExpiry ∈ s.dueEvents ↔ timerDue s.now s.link.gapTimer = true) ∧
    (Instr.linkTimerExpiry ∈ s.dueEvents ↔ timerDue s.now s.link.timer = true) ∧
    (Instr.frameSent ∈ s.dueEvents ↔
      ∃ x, s.link.tx = some x ∧ 10 * (x.frame.body.length + 7) * 1000000 ≤ x.progress) ∧
    (Instr.stallTimerExpiry ∈ s.dueEvents ↔ timerDue s.now s.tracker.stallTimer = true) ∧
    (∀ o,
      (Instr.boostTimerExpiry o ∈ s.dueEvents ↔ timerDue s.now (s.chan o).boostTimer = true) ∧
      (Instr.maxOnTimerExpiry o ∈ s.dueEvents ↔ timerDue s.now (s.chan o).maxOnTimer = true) ∧
      (Instr.recoverTimerExpiry o ∈ s.dueEvents ↔ timerDue s.now (s.chan o).recoverTimer = true) ∧
      (Instr.deferTimerExpiry o ∈ s.dueEvents ↔ timerDue s.now (s.chan o).deferTimer = true) ∧
      (∀ t, Instr.shotStartDue o t ∈ s.dueEvents ↔
        ∃ e ∈ s.queue o, e.state = .waiting ∧ e.start = t ∧ due s.now t = true) ∧
      (∀ t, Instr.shotDropDue o t ∈ s.dueEvents ↔
        ∃ e ∈ s.queue o, e.state = .late ∧ e.start = t ∧ due s.now (t + BitVec.ofNat 32 (e.grace + 1)) = true) ∧
      (Instr.shotEndDue o ∈ s.dueEvents ↔
        ∃ e ∈ s.queue o, ∃ d, e.state = .active d ∧ due s.now (d + BitVec.ofNat 32 e.duration) = true)) ∧
    (∀ i level, Instr.faultSample i level ∈ s.dueEvents ↔
      due s.now (s.faultIn i).nextSample = true ∧ level = rd s.pins.faults i) ∧
    (∀ v, Instr.railSample v ∈ s.dueEvents ↔
      s.rail.enable = true ∧ due s.now s.rail.nextSample = true ∧ v = s.pins.rail) ∧
    (∀ g, Instr.restoreTimerExpiry g ∈ s.dueEvents ↔ timerDue s.now (s.group g).restoreTimer = true) ∧
    (∀ c ∈ s.dueEvents,
      c = .gapTimerExpiry ∨ c = .linkTimerExpiry ∨ c = .frameSent ∨ c = .stallTimerExpiry ∨
      (∃ o, c = .boostTimerExpiry o ∨ c = .maxOnTimerExpiry o ∨ c = .recoverTimerExpiry o ∨ c = .deferTimerExpiry o ∨
        c = .shotEndDue o ∨ ∃ t, c = .shotStartDue o t ∨ c = .shotDropDue o t) ∨
      (∃ i level, c = .faultSample i level) ∨ (∃ v, c = .railSample v) ∨ ∃ g, c = .restoreTimerExpiry g)) ∧
  (∀ s : State,
    (s.inReset = true ↔ s.pins.supplySettled = false ∨ s.pins.nrst = .low) ∧
    (s.decoderReady = true ↔ s.inReset = false ∧ s.link.halted = false ∧ s.link.replies.length < 8) ∧
    (∀ f, s.takes f = true ↔ s.decoderReady = true ∧ (s.link.inbox = [] ∨ ∃ rest, s.link.inbox = f :: rest)) ∧
    (∀ f, s.takes f = false → exec (orderCommand f) s = .next s) ∧
    (s.decoderReady = false ∨ s.link.inbox = [] → s.settle = s) ∧
    (∀ f rest, s.decoderReady = true → s.link.inbox = f :: rest →
      ∃ t, exec (orderCommand f) s = .next t ∧ t.link.inbox = rest ∧ s.settle = t.settle))

/-- While a reset lasts, no command but those of the supply and of nRST does anything (R137). -/
def Obligations.ResetHoldsEverything : Prop :=
  ∀ (c : Instr) (s : State), s.inReset = true →
    c ≠ .supplyFail → c ≠ .supplySettled → c ≠ .nrstLow → c ≠ .nrstHigh → exec c s = .next s

/-- The values after a POWER reset, block by block. The decoder is not halted, each fault input's first sample falls one
period after the reset, and STARTED with the cause POWER is being sent, which leaves the waiting list empty (log 6, the
model's deduction); that the machine begins at a POWER reset is the model's choice (log 7). -/
def Obligations.ResetStateValues : Prop :=
  State.reset.now = 0 ∧ State.reset.mode = .idle ∧ State.reset.pending = [] ∧
    State.reset.tracker = ⟨0, 2, 0, .off, 0, 0, 0, none⟩ ∧
    (∀ o, State.reset.profile o = ⟨.unused, 0, 100, 0, 0, none, 0, .highActive⟩) ∧
    (∀ o, State.reset.chan o = ⟨.inhibited, none, none, false, none, none, none, none, none, none, 0⟩) ∧
    (∀ o, State.reset.queue o = []) ∧ State.reset.poolUse = 0 ∧
    (∀ i, rd State.reset.cam.active i = none) ∧ (∀ i, rd State.reset.cam.shadow i = none) ∧
    State.reset.cam.commitPending = false ∧ (∀ o, State.reset.pass o = none) ∧
    (∀ i, State.reset.iset i = ⟨1, 0, [], []⟩) ∧ State.reset.conflict = none ∧
    State.reset.conflictPolicy = .keepFirst ∧
    (∀ i, (State.reset.faultIn i).activeLevel = .high ∧ (State.reset.faultIn i).period = 10 ∧
      (State.reset.faultIn i).depth = 8 ∧ (State.reset.faultIn i).filtered = .low ∧ (State.reset.faultIn i).run = 0) ∧
    State.reset.rail.enable = false ∧ State.reset.rail.low = 0 ∧ State.reset.rail.high = 600 ∧
    State.reset.rail.depth = 8 ∧ State.reset.rail.lastSample = 0 ∧ State.reset.rail.lowRun = 0 ∧
    State.reset.rail.highRun = 0 ∧ State.reset.sharedSources = 0 ∧
    (∀ g, State.reset.group g = ⟨0, .manual, 0, .purge, .normal, false, none⟩) ∧
    State.reset.link.baud = .b115200 ∧ State.reset.link.candidate = [] ∧ State.reset.link.inbox = [] ∧
    State.reset.link.replies = [] ∧ State.reset.link.cache = [] ∧ State.reset.link.timeout = 0 ∧
    State.reset.link.timer = none ∧ State.reset.link.linkActive = false ∧ State.reset.link.streak = 0 ∧
    State.reset.notices.next = 1 ∧ State.reset.notices.waiting = [] ∧ State.reset.link.halted = false ∧
    State.reset.link.gapTimer = none ∧ (∀ i, (State.reset.faultIn i).nextSample = 10) ∧
    State.reset.resetCause = .power ∧
    State.reset.link.tx = some ⟨⟨true, 0, 0xC0, 0x80, [0, 0, 0]⟩, .nothing, 0⟩

/-- A falling supply begins a reset at once, and so does nRST going low: every block at its values after reset, no
reply and no notice waiting or being sent, the pins low. That the blocks stand so while the reset lasts, with an empty
notice list of next number 0 and the old cause, is the model's deduction (log 6), and so are the input pins that a reset
leaves alone its choice (log 5). A nRST that is low already goes low no more. A reset ends once the supply has settled
and nRST is high: every block at its values after reset, STARTED with the cause being sent. While the other pin keeps
the reset going, only the pin changes. -/
def Obligations.ResetsBeginAndEnd : Prop :=
  (∀ s : State,
    let held (pins : Pins) : State :=
      { State.reset with
        pending := s.pending, resetCause := s.resetCause, link := Link.afterReset .b115200,
        notices := ⟨[], 0⟩, pins := pins, choices := s.choices, picks := s.picks }
    exec .supplyFail s = .next (held { s.pins with supplySettled := false }) ∧
    (s.pins.nrst = .high → exec .nrstLow s = .next (held { s.pins with nrst := .low })) ∧
    (s.pins.nrst = .low → exec .nrstLow s = .next s) ∧
    (∀ t, exec .supplyFail s = .next t → t.inReset = true) ∧
    (∀ t, exec .nrstLow s = .next t → t.inReset = true) ∧
    (∀ o half, s.inReset = true → s.pinLevel o half = .low)) ∧
  (∀ s : State,
    let started (pins : Pins) (cause : ResetCause) (code : Byte) : State :=
      { State.reset with
        pending := s.pending, resetCause := cause,
        link := { Link.afterReset .b115200 with tx := some ⟨⟨true, 0, 0xC0, 0x80, [0, 0, code]⟩, .nothing, 0⟩ },
        notices := ⟨[], 1⟩, pins := pins, choices := s.choices, picks := s.picks }
    (s.pins.supplySettled = false → s.pins.nrst = .high →
      exec .supplySettled s = .next (started { s.pins with supplySettled := true } .power 0)) ∧
    (s.pins.supplySettled = false → s.pins.nrst = .low →
      exec .supplySettled s = .next { s with pins := { s.pins with supplySettled := true } }) ∧
    (s.pins.supplySettled = true → exec .supplySettled s = .next s) ∧
    (s.pins.nrst = .low → s.pins.supplySettled = true →
      exec .nrstHigh s = .next (started { s.pins with nrst := .high } .line 1)) ∧
    (s.pins.nrst = .low → s.pins.supplySettled = false →
      exec .nrstHigh s = .next { s with pins := { s.pins with nrst := .high } }) ∧
    (s.pins.nrst = .high → exec .nrstHigh s = .next s))

/-- RESET halts the decoder and answers OK; when the last byte of that reply has gone, an ORDER reset is made, which
keeps the baud code: a reset with a baud code leaves the link with that code, HUNT, no timer, empty queues and an empty
cache, the decoder not halted, LINK inactive. That FRAME_SENT ends the reply whatever has gone of it, and that the input pins stay as they are
through the reset, are the model's choices (logs 8 and 5). -/
def Obligations.ResetOrderResets : Prop :=
  (∀ (seq : Byte) (s : State), s.takes ⟨seq, 0x05, []⟩ = true →
    exec (.reset seq []) s =
      .next (State.answer { s with link := { s.link with halted := true } } ⟨seq, 0x05, []⟩ (.code .ok) .reset)) ∧
  (∀ s : State, s.link.halted = true → s.decoderReady = false) ∧
  (∀ b : Baud, Link.afterReset b = ⟨b, [], none, [], false, [], [], 0, none, false, 0, none⟩) ∧
  (∀ (s : State) (x : Transmission), s.inReset = false → s.link.tx = some x → x.bound = .reset →
    exec .frameSent s =
      .next { State.reset with
        pending := s.pending, resetCause := .order,
        link := { Link.afterReset s.link.baud with tx := some ⟨⟨true, 0, 0xC0, 0x80, [0, 0, 2]⟩, .nothing, 0⟩ },
        notices := ⟨[], 1⟩, pins := s.pins, choices := s.choices, picks := s.picks })

/-! ## Replies, the arbiter, notices -/

/-- What answering an order leaves: the reply behind those that wait, or being sent where the transmitter is idle; the
cache entry; the inbox without the frame. Nothing else changes. A reply of any kind that finds eight replies waiting is
not placed. A posting takes the next number, full list or not; the notice joins a list of fewer than 32 and is discarded
from a list of 32, and with the transmitter busy nothing else changes; where the transmitter is idle and nothing waits,
the notice begins at its posting. -/
def Obligations.RepliesAndNoticesPlaced : Prop :=
  (∀ (s : State) (f : OrderFrame) (b : ReplyBody) (d : Bound), s.link.replies.length < Config.replyFrames →
    (s.link.tx.isSome = true →
      s.answer f b d =
        { s with link := { s.link with
          replies := s.link.replies ++ [⟨f.seq, f.kind + 0x80, b, d⟩]
          cache := cacheAfter s.link.cache f b
          inbox := inboxAfter s.link.inbox f } }) ∧
    (s.link.tx = none → s.link.replies = [] → s.notices.waiting = [] →
      s.answer f b d =
        { s with link := { s.link with
          tx := some ⟨⟨false, f.seq, f.kind + 0x80, s.flags false, b.bytes⟩, d, 0⟩
          streak := 0
          cache := cacheAfter s.link.cache f b
          inbox := inboxAfter s.link.inbox f } })) ∧
  (∀ (s : State) (b : NoticeBody),
    (s.post b).notices.next = s.notices.next + 1 ∧
    (s.link.tx.isSome = true → s.notices.waiting.length < 32 →
      s.post b = { s with notices := ⟨s.notices.waiting ++ [⟨s.notices.next, b⟩], s.notices.next + 1⟩ }) ∧
    (s.link.tx.isSome = true → s.notices.waiting.length = 32 →
      s.post b = { s with notices := ⟨s.notices.waiting, s.notices.next + 1⟩ })) ∧
  (∀ (s : State) (r : Reply),
    (8 ≤ s.link.replies.length → s.placeReply r = s) ∧
    (s.link.replies.length < 8 → s.link.tx.isSome = true →
      s.placeReply r = { s with link := { s.link with replies := s.link.replies ++ [r] } }) ∧
    (s.link.tx = none → s.link.replies = [] → s.notices.waiting = [] →
      s.placeReply r =
        { s with link := { s.link with tx := some ⟨replyFrame r (s.flags false), r.bound, 0⟩, streak := 0 } })) ∧
  (∀ (s : State) (b : NoticeBody), s.link.tx = none → s.link.replies = [] → s.notices.waiting = [] →
    s.post b =
      { s with
        notices := ⟨[], s.notices.next + 1⟩
        link := { s.link with
          streak := 0
          tx := some ⟨noticeFrame ⟨s.notices.next, b⟩ (s.flags true), .nothing, 0⟩ } })

/-- The arbiter's choice by what waits and by the streak count, and that it leaves a busy transmitter alone.
FRAME_SENT: the transmitter is free, what the frame's last byte sets off happens, the arbiter chooses, and the decoder
takes what it may (settle, IdleStepsGoOn; log 2); that the command ends the frame whatever has gone of it, and is no event where no frame is being sent, is the model's choice
(log 8). A baud change clears the framer only where the code differs. -/
def Obligations.ArbiterChoosesWhenFree : Prop :=
  (∀ s : State,
    (s.link.tx.isSome = true → s.pump = s) ∧
    (s.link.tx = none → s.link.replies = [] → s.notices.waiting = [] → s.pump = s) ∧
    (∀ r rs, s.link.tx = none → s.link.replies = r :: rs → s.notices.waiting = [] →
      s.pump = { s with link := { s.link with
        replies := rs, streak := 0, tx := some ⟨replyFrame r (s.flags false), r.bound, 0⟩ } }) ∧
    (∀ r rs n ns, s.link.tx = none → s.link.replies = r :: rs → s.notices.waiting = n :: ns → s.link.streak < 4 →
      s.pump = { s with link := { s.link with
        replies := rs, streak := s.link.streak + 1, tx := some ⟨replyFrame r (s.flags false), r.bound, 0⟩ } }) ∧
    (∀ n ns, s.link.tx = none → s.link.replies = [] ∨ 4 ≤ s.link.streak → s.notices.waiting = n :: ns →
      s.pump =
        { s with
          notices := { s.notices with waiting := ns }
          link := { s.link with
            streak := 0
            tx := some
              ⟨noticeFrame n (State.flags { s with notices := { s.notices with waiting := ns } } true), .nothing, 0⟩ } })) ∧
  (∀ s : State, s.inReset = false →
    (s.link.tx = none → exec .frameSent s = .next s) ∧
    (∀ x, s.link.tx = some x → x.bound = .nothing →
      exec .frameSent s = .next (State.settle (State.pump { s with link := { s.link with tx := none } }))) ∧
    (∀ x b, s.link.tx = some x → x.bound = .baud b → b = s.link.baud →
      exec .frameSent s = .next (State.settle (State.pump { s with link := { s.link with tx := none } }))) ∧
    (∀ x b, s.link.tx = some x → x.bound = .baud b → b ≠ s.link.baud →
      exec .frameSent s =
        .next (State.settle (State.pump
          { s with link := { s.link with tx := none, baud := b, candidate := [], gapTimer := none } }))))

/-- The FLAGS byte, bit by bit. The bytes of a reply body and of a notice body by kind: the codes of the enumerations,
the common encodings, the fields in their order. An outgoing frame is its start byte, LEN, SEQ, KIND, FLAGS, its body
and the CRC of all from LEN on; a reply's body begins with its result code, a notice's with its number. The CRC takes
each byte into the upper half of a register that starts at 0xFFFF, and shifts eight times with the polynomial 0x1021. -/
def Obligations.FlagsByteSaysState : Prop :=
  (∀ (s : State) (n : Bool),
    (s.flags n).extractLsb' 0 2 = (match s.mode with | .idle => 0#2 | .run => 1#2 | .paused => 2#2) ∧
    ((s.flags n).getLsbD 2 = true ↔ ∃ g, (s.group g).state = .tripped ∨ (s.group g).state = .releasing) ∧
    ((s.flags n).getLsbD 3 = true ↔ s.tracker.state = .synced) ∧
    ((s.flags n).getLsbD 4 = true ↔ s.notices.waiting ≠ []) ∧
    (s.flags n).getLsbD 5 = s.cam.commitPending ∧
    (s.flags n).getLsbD 6 = false ∧ (s.flags n).getLsbD 7 = n) ∧
  (let b (n : Nat) : Byte := BitVec.ofNat 8 n
   [Result.ok, .unknownKind, .badLength, .badField, .wrongMode, .inboxFull, .poolFull, .queueFull, .overlap, .horizon,
     .tooLate, .tooLong, .wrongSource, .tableFull, .noSuchSlot, .commitPending, .notPending, .inUse, .sourcesActive,
     .inhibited, .windowOverlap, .notTripped, .noAngle].map resultByte = (List.range 23).map b ∧
   [Mode.idle, .run, .paused].map modeCode = [0, 1, 2] ∧
   [ResetCause.power, .line, .order].map causeByte = [0, 1, 2] ∧
   [TrackerState.off, .unsynced, .verifying, .synced, .stalled].map trackerByte = [0, 1, 2, 3, 4] ∧
   [TrackerCause.config, .firstIndex, .verified, .indexMissing, .syncLost, .stall, .motion].map trackerCauseByte =
     [0, 1, 2, 3, 4, 5, 6] ∧
   [ChannelState.off, .recover, .queued, .boost, .hold, .overtime, .inhibited].map channelByte = [0, 1, 2, 3, 4, 5, 6] ∧
   [EntryReport.waiting, .late, .deferred, .active, .deferExpired].map entryByte = [0, 1, 2, 3, 4] ∧
   [GroupState.normal, .tripped, .releasing].map groupByte = [0, 1, 2] ∧
   [Piece.plain, .head, .tail].map pieceByte = [0, 1, 2] ∧
   [Baud.b115200, .b230400, .b460800, .b921600].map Baud.byte = [0, 1, 2, 3] ∧
   [TableSel.active, .shadow].map TableSel.byte = [0, 1] ∧
   [ReleaseMode.manual, .auto].map ReleaseMode.byte = [0, 1] ∧
   [QueuePolicy.purge, .keep].map QueuePolicy.byte = [0, 1] ∧
   [ShotEnd.done, .cancelled, .aborted].map shotEndByte = [0, 1, 2] ∧
   [ShotDrop.lateDropped, .deferExpired].map shotDropByte = [0, 1] ∧
   [SkipReason.deferExpired, .unserved].map skipByte = [0, 1] ∧
   [ReleaseHow.restored, .order].map releaseByte = [0, 1] ∧
   [CommitCause.order, .index, .tracker, .mode].map commitBytes = [[0, 0], [1, 1], [1, 2], [1, 3]] ∧
   (∀ (os : List Output) (o : Output), (outputMask os).getLsbD o.val = true ↔ o ∈ os)) ∧
  (let b (n : Nat) : Byte := BitVec.ofNat 8 n
   let two (w : Word16) : List Byte := [w.extractLsb' 0 8, w.extractLsb' 8 8]
   let time (t : Time) : List Byte := [t.extractLsb' 0 8, t.extractLsb' 8 8, t.extractLsb' 16 8, t.extractLsb' 24 8]
   let num (n : Nat) : List Byte := two (BitVec.ofNat 16 n)
   let flag (p : Bool) : Byte := if p then 1 else 0
   let opt (t : Option Time) : List Byte := flag t.isSome :: time (t.getD 0)
   let origin : Option Origin → List Byte
     | none => [0, 0, 0]
     | some (.shot tag) => 1 :: two tag
     | some (.cam slot) => 2 :: num slot.val
     | some .manual => [3, 0, 0]
   let set : Option SetId → Byte
     | none => 0xFF
     | some i => b i.val
   let mask (os : List Output) : List Byte := two (outputMask os)
   let met : Option (Word16 × Time) → List Byte
     | none => []
     | some (tag, start) => two tag ++ time start
   let entry (e : Entry) : List Byte :=
     two e.tag ++ time e.start ++ time (BitVec.ofNat 32 e.duration) ++ num e.grace ++
       [flag e.report, match e.state with | .waiting => 0 | .late => 1 | .deferred => 2 | .active _ => 3] ++
       time (match e.state with | .active d => d | _ => 0)
   (∀ r : Result, (ReplyBody.code r).bytes = [resultByte r]) ∧
   (∀ r : StatusReport, (ReplyBody.status r).bytes =
     [0, b (modeCode r.mode), causeByte r.resetCause, trackerByte r.tracker] ++ r.groups.map groupByte ++
       [r.sources] ++ num r.rail ++ [b r.poolUse, b r.noticeFill] ++ two r.nextNotice ++ time r.now) ∧
   (∀ now st pos cycle, (ReplyBody.time now st pos cycle).bytes =
     [0] ++ time now ++ [trackerByte st] ++ num pos ++ time cycle) ∧
   (∀ baud t, (ReplyBody.setLink baud t).bytes = [0, baud.byte] ++ num t) ∧
   (∀ os, (ReplyBody.held os).bytes = [0] ++ mask os) ∧ (∀ n, (ReplyBody.purged n).bytes = [0, b n]) ∧
   (∀ st p, (ReplyBody.manual st p).bytes = [0, channelByte st, flag p]) ∧
   (∀ r : ChannelReport, (ReplyBody.channel r).bytes =
     [0, channelByte r.state] ++ origin r.demand ++ origin r.remembered ++ [flag r.manualDemand] ++ opt r.driveStart ++
       opt r.lastStop ++ opt r.boost ++ opt r.maxOn ++ opt r.recover ++ opt r.defer ++ [b r.queueLength, set r.iset]) ∧
   (∀ t st len pool, (ReplyBody.shot t st len pool).bytes = [0] ++ time t ++ [entryByte st, b len, b pool]) ∧
   (∀ tag t, (ReplyBody.overlap tag t).bytes = [8] ++ two tag ++ time t) ∧
   (∀ r n i m, (ReplyBody.shots r n i m).bytes = [resultByte r, b n, b i, resultByte r] ++ met m) ∧
   (∀ n, (ReplyBody.cancelled n).bytes = [0, b n]) ∧
   (∀ len first es, (ReplyBody.queue len first es).bytes = [0, b len, b first, b es.length] ++ es.flatMap entry) ∧
   (∀ i : Slot, (ReplyBody.camPut i).bytes = [0, b i.val] ∧ (ReplyBody.windowOverlap i).bytes = [0x14, b i.val]) ∧
   (∀ n, (ReplyBody.windows n).bytes = [0, b n]) ∧ (∀ p n, (ReplyBody.commit p n).bytes = [0, flag p, b n]) ∧
   (∀ sel (i : Slot) w p, (ReplyBody.camRead sel i w p).bytes =
     [0, sel.byte, b i.val, b w.output.val] ++ num w.onAngle ++ num w.offAngle ++ [b w.divisor, b w.phase] ++
       match p with
       | some q => [1, pieceByte q.piece] ++ time q.entryCycle
       | none => [0, 0, 0, 0, 0, 0]) ∧
   (∀ cap lim ms os gs, (ReplyBody.iset cap lim ms os gs).bytes =
     [0, b cap] ++ num lim ++ mask ms ++ mask os ++ [b gs.length] ++ gs.flatMap fun g => b g.1.val :: time g.2) ∧
   (ReplyBody.conflict none).bytes = [0, 0] ∧
   (∀ r : ConflictRecord, (ReplyBody.conflict (some r)).bytes =
     [0, 1, b r.output.val, b r.set.val] ++ time r.time ++ mask r.occupants ++ [b r.grantLength] ++
       origin (some r.origin) ++ [flag r.later]) ∧
   (∀ gs, (ReplyBody.trip gs).bytes = [0] ++ gs.map groupByte) ∧
   (∀ st, (ReplyBody.groupState st).bytes = [0, groupByte st]) ∧
   (∀ m, (ReplyBody.sourcesActive m).bytes = [0x12, m]) ∧
   (∀ r : TripReport, (ReplyBody.tripRead r).bytes =
     [0, groupByte r.state, r.sources, r.activeSources, flag r.hostTrip, r.releaseMode.byte] ++ num r.restoreDelay ++
       [r.policy.byte] ++ time r.timeLeft ++ mask r.members) ∧
   (∀ (n : Word16) (body : NoticeBody),
     let is (kind : Byte) (rest : List Byte) : Prop := body.kind = kind ∧ (Notice.mk n body).bytes = two n ++ rest
     (∀ c, body = .started c → is 0xC0 [causeByte c]) ∧
     (∀ o tag r t d u, body = .shotEnd o tag r t d u →
       is 0xC1 ([b o.val] ++ two tag ++ [shotEndByte r] ++ time t ++ opt d ++ time u)) ∧
     (∀ o tag r t g u, body = .shotDropped o tag r t g u →
       is 0xC2 ([b o.val] ++ two tag ++ [shotDropByte r] ++ time t ++ num g ++ time u)) ∧
     (∀ o i c r t, body = .camSkipped o i c r t → is 0xC3 ([b o.val, b i.val] ++ time c ++ [skipByte r] ++ time t)) ∧
     (∀ o i t, body = .manualDropped o i t → is 0xC4 ([b o.val, set i] ++ time t)) ∧
     (∀ o g d t, body = .overtime o g (some d) t → is 0xC5 ([b o.val] ++ origin g ++ time d ++ time t)) ∧
     (∀ x y c, body = .tracker x y c → is 0xC6 [trackerByte x, trackerByte y, trackerCauseByte c]) ∧
     (∀ c cycle k, body = .camCommitted c cycle k → is 0xC7 (commitBytes c ++ time cycle ++ [b k])) ∧
     (∀ g m k t, body = .groupTripped g m k t → is 0xC8 ([b g.val, m, b k] ++ time t)) ∧
     (∀ g how t, body = .groupReleased g how t → is 0xC9 ([b g.val, releaseByte how] ++ time t)) ∧
     (∀ o i t g, body = .conflict o i t g → is 0xCA ([b o.val, b i.val] ++ time t ++ origin (some g)))) ∧
   (∀ f : OutFrame,
     let span : List Byte := [b (f.body.length + 3), f.seq, f.kind, f.flags] ++ f.body
     f.bytes = [0x5A] ++ span ++ two (crc16 span)) ∧
   (∀ (r : Reply) (flags : Byte), replyFrame r flags = ⟨false, r.seq, r.kind, flags, r.body.bytes⟩) ∧
   (∀ (n : Notice) (flags : Byte), noticeFrame n flags = ⟨true, 0, n.body.kind, flags, n.bytes⟩)) ∧
  (∀ span : List Byte,
    let shift (r : Word16) : Word16 := if r.getLsbD 15 then (r <<< 1) ^^^ 0x1021 else r <<< 1
    crc16 span =
      span.foldl
        (fun (r : Word16) (b : Byte) => (List.range 8).foldl (fun r _ => shift r) (r ^^^ (b.setWidth 16 <<< 8)))
        0xFFFF) ∧
  crc16 [0x31, 0x32, 0x33, 0x34, 0x35, 0x36, 0x37, 0x38, 0x39] = 0x29B1

/-! ## The Order Decoder's checks -/

/-- A body of another length than its kind's is refused with BAD_LENGTH; SHOTS is checked by its count. Numbers out of
range and reserved bits are refused with BAD_FIELD: outputs, groups, sets, masks, choices, and each field of
SET_PROFILE, SET_ANGLE, CAM_PUT, SET_RAIL and SET_TGROUP. A frame of a kind the controller does not know is answered
with UNKNOWN_KIND, whatever its body. -/
def Obligations.DecoderRefuses : Prop :=
  ((∀ (f : OrderFrame) (s : State) (n : Nat), s.takes f = true → orderBodyLength f.kind = some n → f.body.length ≠ n →
    exec (orderCommand f) s = .next (s.answer f (.code .badLength) .nothing)) ∧
  (∀ (seq : Byte) (body : List Byte) (s : State), s.takes ⟨seq, 0x31, body⟩ = true →
    (body = [] → exec (.shots seq body) s = .next (s.answer ⟨seq, 0x31, body⟩ (.code .badLength) .nothing)) ∧
    (∀ c rest, body = c :: rest → c.toNat = 0 ∨ 16 < c.toNat →
      exec (.shots seq body) s = .next (s.answer ⟨seq, 0x31, body⟩ (.code .badField) .nothing)) ∧
    (∀ c rest, body = c :: rest → 1 ≤ c.toNat → c.toNat ≤ 16 → body.length ≠ 1 + 14 * c.toNat →
      exec (.shots seq body) s = .next (s.answer ⟨seq, 0x31, body⟩ (.code .badLength) .nothing)))) ∧
  (∀ (s : State) (f : OrderFrame), s.takes f = true →
    (∀ b : Byte, f.body = [b] →
      f.kind = 0x21 ∧ 16 ≤ b.toNat ∨ f.kind = 0x51 ∧ 8 ≤ b.toNat ∨ f.kind = 0x52 ∧ 2 ≤ b.toNat ∨
        f.kind = 0x63 ∧ 16 ≤ b.toNat ∨ f.kind = 0x64 ∧ 4 ≤ b.toNat ∨ f.kind = 0x65 ∧ 4 ≤ b.toNat →
      exec (orderCommand f) s = .next (s.answer f (.code .badField) .nothing)) ∧
    (∀ a b : Byte, f.body = [a, b] →
      f.kind = 0x22 ∧ (16 ≤ a.toNat ∨ 2 ≤ b.toNat) ∨ f.kind = 0x33 ∧ (16 ≤ a.toNat ∨ 48 ≤ b.toNat) ∨
        f.kind = 0x48 ∧ 2 ≤ a.toNat →
      exec (orderCommand f) s = .next (s.answer f (.code .badField) .nothing)) ∧
    (∀ a b c d : Byte, f.body = [a, b, c, d] →
      f.kind = 0x32 ∧ (16 ≤ a.toNat ∧ a ≠ 0xFF ∨ 2 ≤ b.toNat) ∨
        f.kind = 0x50 ∧ (8 ≤ a.toNat ∨ b.toNat = 0 ∨ 16 < b.toNat) ∨
        f.kind = 0x60 ∧ (4 ≤ a.toNat ∨ 2 ≤ b.toNat ∨ c.toNat = 0 ∨ d.toNat = 0) →
      exec (orderCommand f) s = .next (s.answer f (.code .badField) .nothing)) ∧
    (∀ a b c : Byte, f.body = [a, b, c] → f.kind = 0x04 →
      4 ≤ a.toNat ∨ c = 0 ∧ 1 ≤ b.toNat ∧ b.toNat ≤ 9 →
      exec (orderCommand f) s = .next (s.answer f (.code .badField) .nothing))) ∧
  (∀ (seq kind : Byte) (body : List Byte) (s : State), knownKinds.contains kind = false →
    s.takes ⟨seq, kind, body⟩ = true →
    exec (.unknownOrder seq kind body) s = .next (s.answer ⟨seq, kind, body⟩ (.code .unknownKind) .nothing)) ∧
  (∀ (s : State) (f : OrderFrame), s.takes f = true →
    let badField := exec (orderCommand f) s = .next (s.answer f (.code .badField) .nothing)
    let field (low high : Byte) : Nat := (high ++ low).toNat
    (∀ o src b0 b1 duty m0 m1 x0 x1 set groups polarity : Byte, f.kind = 0x20 →
      f.body = [o, src, b0, b1, duty, m0, m1, x0, x1, set, groups, polarity] →
      16 ≤ o.toNat ∨ 4 ≤ src.toNat ∨ 10000 < field b0 b1 ∨ duty.toNat = 0 ∨ 100 < duty.toNat ∨ 60000 < field x0 x1 ∨
        (8 ≤ set.toNat ∧ set ≠ 0xFF) ∨ 16 ≤ groups.toNat ∨ 2 ≤ polarity.toNat → badField) ∧
    (∀ l0 l1 tolerance s0 s1 : Byte, f.kind = 0x40 → f.body = [l0, l1, tolerance, s0, s1] →
      (1 ≤ field l0 l1 ∧ field l0 l1 ≤ 7) ∨ 16 ≤ tolerance.toNat → badField) ∧
    (∀ o n0 n1 f0 f1 divisor phase : Byte, f.kind = 0x42 → f.body = [o, n0, n1, f0, f1, divisor, phase] →
      16 ≤ o.toNat ∨ divisor.toNat = 0 ∨ 8 < divisor.toNat ∨ divisor.toNat ≤ phase.toNat → badField) ∧
    (∀ enable l0 l1 h0 h1 depth : Byte, f.kind = 0x61 → f.body = [enable, l0, l1, h0, h1, depth] →
      2 ≤ enable.toNat ∨ 600 < field l0 l1 ∨ 600 < field h0 h1 ∨ depth.toNat = 0 → badField) ∧
    (∀ group sources release d0 d1 policy : Byte, f.kind = 0x62 →
      f.body = [group, sources, release, d0, d1, policy] →
      4 ≤ group.toNat ∨ sources.getLsbD 7 = true ∨ 2 ≤ release.toNat ∨ 2 ≤ policy.toNat → badField))

/-- What a body says is what its fields were, for every order that carries a record, and for the orders whose body is
an output, a set, a group, a slot or a few choices: no bit is dropped. -/
def Obligations.BodiesDecode : Prop :=
  (∀ (o : Output) (p : Profile), p.boost ≤ 10000 → 1 ≤ p.duty → p.duty ≤ 100 → p.minOff ≤ 65535 → p.maxOn ≤ 60000 →
    decodeSetProfile (setProfileBody o p) = .ok (o, p)) ∧
  (∀ e : ShotFields, e.duration < 2 ^ 32 → e.grace < 65536 → decodeShot (shotBody e) = .ok e) ∧
  (∀ es : List ShotFields, 1 ≤ es.length → es.length ≤ 16 → (∀ e ∈ es, e.duration < 2 ^ 32 ∧ e.grace < 65536) →
    decodeShots (byteOf es.length :: es.flatMap shotBody) = .ok es) ∧
  (∀ a : AngleFields, a.cycleLength = 0 ∨ 8 ≤ a.cycleLength → a.cycleLength ≤ 65535 → a.tolerance ≤ 15 →
    a.stallTimeout ≤ 65535 → decodeSetAngle (setAngleBody a) = .ok a) ∧
  (∀ w : Window, w.onAngle ≤ 65535 → w.offAngle ≤ 65535 → 1 ≤ w.divisor → w.divisor ≤ 8 → w.phase < w.divisor →
    decodeCamPut (camPutBody w) = .ok w) ∧
  (∀ f : IsetFields, 1 ≤ f.capacity → f.capacity ≤ 16 → f.deferLimit ≤ 65535 →
    decodeSetIset (setIsetBody f) = .ok f) ∧
  (∀ f : FaultinFields, 1 ≤ f.period → f.period ≤ 255 → 1 ≤ f.depth → f.depth ≤ 255 →
    decodeSetFaultin (setFaultinBody f) = .ok f) ∧
  (∀ f : RailFields, f.low ≤ 600 → f.high ≤ 600 → 1 ≤ f.depth → f.depth ≤ 255 →
    decodeSetRail (setRailBody f) = .ok f) ∧
  (∀ f : TgroupFields, f.sources.getLsbD 7 = false → f.restoreDelay ≤ 65535 →
    decodeSetTgroup (setTgroupBody f) = .ok f) ∧
  (let b (n : Nat) : Byte := BitVec.ofNat 8 n
   let two (n : Nat) : List Byte := [b (n % 256), b (n / 256)]
   (∀ t, t = 0 ∨ 10 ≤ t → t ≤ 65535 →
     decodeSetLink (0 :: two t) = .ok (.b115200, t) ∧ decodeSetLink (1 :: two t) = .ok (.b230400, t) ∧
     decodeSetLink (2 :: two t) = .ok (.b460800, t) ∧ decodeSetLink (3 :: two t) = .ok (.b921600, t)) ∧
   (∀ o : Output,
     decodeOutput [b o.val] = .ok o ∧ decodeManual [b o.val, 0] = .ok (o, false) ∧
     decodeManual [b o.val, 1] = .ok (o, true) ∧
     (∀ tag, tag ≤ 65535 →
       decodeCancel ([b o.val, 0] ++ two tag) = .ok ⟨[o], BitVec.ofNat 16 tag, false⟩ ∧
       decodeCancel ([b o.val, 1] ++ two tag) = .ok ⟨[o], BitVec.ofNat 16 tag, true⟩) ∧
     (∀ i, i ≤ 47 → decodeQueueRead [b o.val, b i] = .ok (o, i))) ∧
   (∀ x : Byte, decodeCamRead [0, x] = .ok (.active, x) ∧ decodeCamRead [1, x] = .ok (.shadow, x) ∧
     decodeCamDrop [x] = .ok x) ∧
   (∀ i : SetId, decodeIsetRead [b i.val] = .ok i) ∧ (∀ g : GroupId, decodeGroup [b g.val] = .ok g) ∧
   (∀ m : BitVec 4, decodeTrip [0#4 ++ m] = .ok m) ∧
   decodeSetConflict [0] = .ok .keepFirst ∧ decodeSetConflict [1] = .ok .keepLatest)

/-! ## The framer and admission -/

/-- Every order frame the framer can have found is found again in its own bytes, and stands for its command. -/
def Obligations.FramesAreFound : Prop :=
  ∀ (i : Instr) (f : OrderFrame), i.wellFormed = true → commandFrame i = some f →
    scan false f.bytes = ([f], []) ∧ orderCommand f = i

/-- A byte arrival: in HUNT a byte other than the start byte is dropped and the start byte begins a candidate; a byte in
the middle of a body joins it; the byte that completes a CRC-good frame makes one frame arrival and leaves the framer in
HUNT; a stop-bit error in HUNT does nothing, and one behind a start byte alone ends the candidate. The gap timer's
expiry ends the candidate: the framer is in HUNT holding nothing. An incomplete candidate that holds no second start
byte is dropped with nothing else; that an expiry which is not due is no event is the model's choice (log 3). A discard
takes the held bytes once more: a LEN out of range or a CRC that differs drops the start byte alone, a stop-bit error or
a gap also discards what is left incomplete, and every CRC-good frame found is a frame arrival, in order. Where frames
arrive, the decoder then takes what it may at once (settle, IdleStepsGoOn; log 2). That all the frames of one event
arrive with no order taken between them is the model's deduction (log 9). -/
def Obligations.FramerTakesBytes : Prop :=
  (∀ s : State, s.inReset = false →
    (∀ b, s.link.candidate = [] → s.link.gapTimer = none → b ≠ 0x5A → exec (.byteArrival (.data b)) s = .next s) ∧
    (s.link.candidate = [] →
      exec (.byteArrival (.data 0x5A)) s =
        .next { s with link := { s.link with candidate := [0x5A], gapTimer := some (s.now + 2000) } }) ∧
    (∀ len : Byte, s.link.candidate = [0x5A] → 2 ≤ len.toNat → len.toNat ≤ 242 →
      exec (.byteArrival (.data len)) s =
        .next { s with link := { s.link with candidate := [0x5A, len], gapTimer := some (s.now + 2000) } }) ∧
    (∀ (b : Byte) (f : OrderFrame), f.wellFormed = true → s.link.candidate ++ [b] = f.bytes →
      exec (.byteArrival (.data b)) s =
        .next (State.settle
          (State.frameArrival { s with link := { s.link with candidate := [], gapTimer := none } } f))) ∧
    (s.link.candidate = [] → s.link.gapTimer = none → exec (.byteArrival .stopError) s = .next s) ∧
    (s.link.candidate = [0x5A] →
      exec (.byteArrival .stopError) s =
        .next { s with link := { s.link with candidate := [], gapTimer := none } })) ∧
  (∀ s : State, s.inReset = false →
    (timerDue s.now s.link.gapTimer = false → exec .gapTimerExpiry s = .next s) ∧
    (timerDue s.now s.link.gapTimer = true →
      ∃ t, exec .gapTimerExpiry s = .next t ∧ t.link.candidate = [] ∧ t.link.gapTimer = none) ∧
    (timerDue s.now s.link.gapTimer = true → judgeCandidate s.link.candidate.tail = .incomplete →
      (∀ b ∈ s.link.candidate.tail, b ≠ 0x5A) →
      exec .gapTimerExpiry s = .next { s with link := { s.link with candidate := [], gapTimer := none } })) ∧
  (∀ (s : State) (len b : Byte) (held : List Byte), s.inReset = false → s.link.candidate = 0x5A :: len :: held →
    2 ≤ len.toNat → len.toNat ≤ 242 → held.length + 1 < len.toNat + 2 →
    exec (.byteArrival (.data b)) s =
      .next { s with link := { s.link with
        candidate := 0x5A :: len :: (held ++ [b]), gapTimer := some (s.now + 2000) } }) ∧
  (∀ s : State, s.inReset = false →
    let taken (x : List OrderFrame × List Byte) : State :=
      let s1 : State := { s with link := { s.link with
        candidate := x.2, gapTimer := if x.2.isEmpty then none else some (s.now + 2000) } }
      if x.1 = [] then s1 else (x.1.foldl State.frameArrival s1).settle
    (∀ b, exec (.byteArrival (.data b)) s = .next (taken (scan false (s.link.candidate ++ [b])))) ∧
    exec (.byteArrival .stopError) s = .next (taken (scan true s.link.candidate)) ∧
    (timerDue s.now s.link.gapTimer = true → exec .gapTimerExpiry s = .next (taken (scan true s.link.candidate)))) ∧
  ((∀ ended, scan ended [] = ([], [])) ∧ scan false [0x5A] = ([], [0x5A]) ∧ scan true [0x5A] = ([], []) ∧
    (∀ (ended : Bool) (b : Byte) (rest : List Byte), b ≠ 0x5A → scan ended (b :: rest) = scan ended rest) ∧
    (∀ (ended : Bool) (len : Byte) (rest : List Byte), len.toNat < 2 ∨ 242 < len.toNat →
      scan ended (0x5A :: len :: rest) = scan ended (len :: rest)) ∧
    (∀ (len : Byte) (rest : List Byte), 2 ≤ len.toNat → len.toNat ≤ 242 → rest.length < len.toNat + 2 →
      scan false (0x5A :: len :: rest) = ([], 0x5A :: len :: rest) ∧
      scan true (0x5A :: len :: rest) = scan true (len :: rest)) ∧
    (∀ (ended : Bool) (len c0 c1 : Byte) (counted rest : List Byte), 2 ≤ len.toNat → len.toNat ≤ 242 →
      counted.length = len.toNat → crc16 (len :: counted) ≠ c1 ++ c0 →
      scan ended (0x5A :: len :: (counted ++ c0 :: c1 :: rest)) = scan ended (len :: (counted ++ c0 :: c1 :: rest))) ∧
    (∀ (ended : Bool) (f : OrderFrame) (rest : List Byte), f.wellFormed = true →
      scan ended (f.bytes ++ rest) = (f :: (scan ended rest).1, (scan ended rest).2)))

/-- Admission of a frame, whatever the link timer did at its arrival: a frame the cache knows is answered from it without
being executed; a frame that waits in the inbox is dropped; a full inbox answers INBOX_FULL; else the frame is admitted.
With no link timeout in force a frame arrival is its admission. -/
def Obligations.FramesAdmitted : Prop :=
  (∀ (s : State) (f : OrderFrame), s.link.timeout = 0 → s.frameArrival f = s.admission f) ∧
  (∀ (s : State) (f : OrderFrame),
    (∀ e, f.seq ≠ 0 → (s.link.cache.find? fun e => e.seq = f.seq && e.crc = f.crc) = some e →
      s.admission f = s.placeReply ⟨e.seq, e.kind, e.body, .nothing⟩) ∧
    (f.seq = 0 ∨ (∀ e ∈ s.link.cache, ¬ (e.seq = f.seq ∧ e.crc = f.crc)) →
      (f.seq ≠ 0 → (∃ g ∈ s.link.inbox, g.seq = f.seq ∧ g.crc = f.crc) → s.admission f = s) ∧
      (f.seq = 0 ∨ (∀ g ∈ s.link.inbox, ¬ (g.seq = f.seq ∧ g.crc = f.crc)) →
        (4 ≤ s.link.inbox.length →
          s.admission f = s.placeReply ⟨f.seq, f.kind + 0x80, .code .inboxFull, .nothing⟩) ∧
        (s.link.inbox.length < 4 →
          s.admission f = { s with link := { s.link with inbox := s.link.inbox ++ [f] } }))))

/-- The link timer and LINK: a frame arrival restarts the timer and ends LINK, before admission judges the frame (log
15, the model's deduction); an expiry stops the timer and makes LINK active, which is a source change where LINK was
not; that one which is not due is no event is the model's choice (log 3). SET_LINK starts the timer, or stops it and
ends LINK. -/
def Obligations.LinkTimerRuns : Prop :=
  (∀ (s : State) (f : OrderFrame), s.link.timeout ≠ 0 →
    let s1 : State := { s with link := { s.link with
      timer := some (s.now + BitVec.ofNat 32 (s.link.timeout * 1000)), linkActive := false } }
    (s.link.linkActive = false → s.frameArrival f = s1.admission f) ∧
    (s.link.linkActive = true → s.frameArrival f = (s1.sourceChange 0x10).admission f)) ∧
  (∀ s : State, s.inReset = false →
    (timerDue s.now s.link.timer = false → exec .linkTimerExpiry s = .next s) ∧
    (timerDue s.now s.link.timer = true → s.link.linkActive = false →
      exec .linkTimerExpiry s =
        .next (State.sourceChange { s with link := { s.link with timer := none, linkActive := true } } 0x10)) ∧
    (timerDue s.now s.link.timer = true → s.link.linkActive = true →
      exec .linkTimerExpiry s = .next { s with link := { s.link with timer := none } })) ∧
  (∀ (seq : Byte) (body : List Byte) (b : Baud) (t : Nat) (s : State), s.takes ⟨seq, 0x04, body⟩ = true →
    decodeSetLink body = .ok (b, t) →
    let s1 (timer : Option Time) (active : Bool) : State :=
      { s with link := { s.link with timeout := t, timer := timer, linkActive := active } }
    (t ≠ 0 →
      exec (.setLink seq body) s =
        .next ((s1 (some (s.now + BitVec.ofNat 32 (t * 1000))) s.link.linkActive).answer ⟨seq, 0x04, body⟩
          (.setLink b t) (.baud b))) ∧
    (t = 0 → s.link.linkActive = false →
      exec (.setLink seq body) s =
        .next ((s1 none false).answer ⟨seq, 0x04, body⟩ (.setLink b t) (.baud b))) ∧
    (t = 0 → s.link.linkActive = true →
      exec (.setLink seq body) s =
        .next (((s1 none false).sourceChange 0x10).answer ⟨seq, 0x04, body⟩ (.setLink b t) (.baud b))))

/-! ## Orders that read -/

/-- IDENT, STATUS and TIME change nothing and answer the identity, the state of the part, the time. CHANNEL,
QUEUE_READ, ISET_READ and TRIP_READ change nothing and answer what they name as it stands. The time left on a timer is
its expiry minus now; a stopped timer, and one whose expiry has come, has none. -/
def Obligations.StateReadOut : Prop :=
  (∀ (seq : Byte) (s : State),
    (s.takes ⟨seq, 0x01, []⟩ = true →
      exec (.ident seq []) s = .next (s.answer ⟨seq, 0x01, []⟩ .ident .nothing)) ∧
    ReplyBody.ident.bytes = [0x00, 0xA7, 0x55, 0x16, 0xD0, 0x01, 16, 192, 48, 96, 8, 4, 32] ∧
    (s.takes ⟨seq, 0x02, []⟩ = true →
      exec (.status seq []) s =
        .next (s.answer ⟨seq, 0x02, []⟩
          (.status
            { mode := s.mode, resetCause := s.resetCause, tracker := s.tracker.state,
              groups := [(s.group 0).state, (s.group 1).state, (s.group 2).state, (s.group 3).state],
              sources :=
                s.sharedSources |||
                  (if (∃ g, (s.group g).hostTrip = true) then 0x80 else 0),
              rail := s.rail.lastSample, poolUse := s.poolUse, noticeFill := s.notices.waiting.length,
              nextNotice := s.notices.next, now := s.now })
          .nothing)) ∧
    (s.takes ⟨seq, 0x03, []⟩ = true →
      exec (.time seq []) s =
        .next (s.answer ⟨seq, 0x03, []⟩ (.time s.now s.tracker.state s.tracker.position s.tracker.cycle) .nothing))) ∧
  (∀ (seq : Byte) (body : List Byte) (s : State),
    (∀ o, s.takes ⟨seq, 0x21, body⟩ = true → decodeOutput body = .ok o →
      exec (.channel seq body) s =
        .next (s.answer ⟨seq, 0x21, body⟩
          (.channel
            { state := (s.chan o).state, demand := (s.chan o).demand, remembered := (s.chan o).remembered,
              manualDemand := (s.chan o).manualDemand, driveStart := (s.chan o).driveStart,
              lastStop := (s.chan o).lastStop, boost := timeLeft s.now (s.chan o).boostTimer,
              maxOn := timeLeft s.now (s.chan o).maxOnTimer, recover := timeLeft s.now (s.chan o).recoverTimer,
              defer := timeLeft s.now (s.chan o).deferTimer, queueLength := (s.queue o).length,
              iset := (s.profile o).iset })
          .nothing)) ∧
    (∀ o i, s.takes ⟨seq, 0x33, body⟩ = true → decodeQueueRead body = .ok (o, i) →
      exec (.queueRead seq body) s =
        .next (s.answer ⟨seq, 0x33, body⟩ (.queue (s.queue o).length i (((s.queue o).drop i).take 8)) .nothing)) ∧
    (∀ i, s.takes ⟨seq, 0x51, body⟩ = true → decodeIsetRead body = .ok i →
      exec (.isetRead seq body) s =
        .next (s.answer ⟨seq, 0x51, body⟩
          (.iset (s.iset i).capacity (s.iset i).deferLimit
            ((List.finRange 16).filter fun o => (s.profile o).iset = some i) (s.iset i).occupants
            ((s.iset i).grants.map fun o => (o, (timeLeft s.now (s.chan o).deferTimer).getD 0)))
          .nothing)) ∧
    (∀ g, s.takes ⟨seq, 0x65, body⟩ = true → decodeGroup body = .ok g →
      exec (.tripRead seq body) s =
        .next (s.answer ⟨seq, 0x65, body⟩
          (.tripRead
            { state := (s.group g).state, sources := (s.group g).sources,
              activeSources :=
                ((s.group g).sources &&& s.sharedSources) ||| (if (s.group g).hostTrip then 0x80 else 0),
              hostTrip := (s.group g).hostTrip, releaseMode := (s.group g).releaseMode,
              restoreDelay := (s.group g).restoreDelay, policy := (s.group g).policy,
              timeLeft := (timeLeft s.now (s.group g).restoreTimer).getD 0,
              members := (List.finRange 16).filter fun o => (s.profile o).groups.getLsbD g.val })
          .nothing))) ∧
  (∀ now : Time, timeLeft now none = none ∧
    (∀ e, due now e = true → timeLeft now (some e) = none) ∧
    (∀ e, due now e = false → timeLeft now (some e) = some (e - now)))

/-- CAM_READ changes nothing and answers the window of the slot, with the output's pass where it stands on this slot of
the active table; a slot above 95 or an empty one is refused with NO_SUCH_SLOT. -/
def Obligations.CamReadOut : Prop :=
  ∀ (seq : Byte) (body : List Byte) (s : State) (sel : TableSel) (b : Byte),
    s.takes ⟨seq, 0x48, body⟩ = true → decodeCamRead body = .ok (sel, b) →
    (96 ≤ b.toNat → exec (.camRead seq body) s = .next (s.answer ⟨seq, 0x48, body⟩ (.code .noSuchSlot) .nothing)) ∧
    (∀ slot : Slot, slot.val = b.toNat →
      (rd (s.camTable sel) slot = none →
        exec (.camRead seq body) s = .next (s.answer ⟨seq, 0x48, body⟩ (.code .noSuchSlot) .nothing)) ∧
      (∀ w, rd (s.camTable sel) slot = some w → sel = .shadow →
        exec (.camRead seq body) s =
          .next (s.answer ⟨seq, 0x48, body⟩ (.camRead .shadow slot w none) .nothing)) ∧
      (∀ w, rd (s.camTable sel) slot = some w → sel = .active →
        (∀ p, s.pass w.output = some p → p.slot = slot →
          exec (.camRead seq body) s =
            .next (s.answer ⟨seq, 0x48, body⟩ (.camRead .active slot w (some p)) .nothing)) ∧
        (s.pass w.output = none ∨ (∃ p, s.pass w.output = some p ∧ p.slot ≠ slot) →
          exec (.camRead seq body) s =
            .next (s.answer ⟨seq, 0x48, body⟩ (.camRead .active slot w none) .nothing))))

/-! ## Modes -/

/-- START and RESUME take the part to RUN from the mode each needs and answer the held outputs; from another mode each
is refused with WRONG_MODE. PAUSE takes the part from RUN to PAUSED; STOP takes it from RUN or PAUSED to IDLE, empties
every queue and answers the number of entries purged; from another mode each is refused with WRONG_MODE. -/
def Obligations.ModeOrdersTaken : Prop :=
  (∀ (seq : Byte) (s : State),
    let held := (List.finRange 16).filter fun o =>
      decide (∃ g : GroupId, (s.profile o).groups.getLsbD g.val = true ∧ (s.group g).state ≠ .normal)
    (s.takes ⟨seq, 0x10, []⟩ = true → s.mode = .idle →
      exec (.start seq []) s = .next ((s.changeMode .run).answer ⟨seq, 0x10, []⟩ (.held held) .nothing)) ∧
    (s.takes ⟨seq, 0x10, []⟩ = true → s.mode ≠ .idle →
      exec (.start seq []) s = .next (s.answer ⟨seq, 0x10, []⟩ (.code .wrongMode) .nothing)) ∧
    (s.takes ⟨seq, 0x13, []⟩ = true → s.mode = .paused →
      exec (.resume seq []) s = .next ((s.changeMode .run).answer ⟨seq, 0x13, []⟩ (.held held) .nothing)) ∧
    (s.takes ⟨seq, 0x13, []⟩ = true → s.mode ≠ .paused →
      exec (.resume seq []) s = .next (s.answer ⟨seq, 0x13, []⟩ (.code .wrongMode) .nothing))) ∧
  (∀ (seq : Byte) (s : State),
    (s.takes ⟨seq, 0x12, []⟩ = true → s.mode = .run →
      exec (.pause seq []) s = .next ((s.changeMode .paused).answer ⟨seq, 0x12, []⟩ (.code .ok) .nothing)) ∧
    (s.takes ⟨seq, 0x12, []⟩ = true → s.mode ≠ .run →
      exec (.pause seq []) s = .next (s.answer ⟨seq, 0x12, []⟩ (.code .wrongMode) .nothing)) ∧
    (s.takes ⟨seq, 0x11, []⟩ = true → s.mode ≠ .idle →
      exec (.stop seq []) s =
        .next (State.answer { s.changeMode .idle with queues := Vector.replicate 16 [] } ⟨seq, 0x11, []⟩
          (.purged (s.changeMode .idle).poolUse) .nothing)) ∧
    (s.takes ⟨seq, 0x11, []⟩ = true → s.mode = .idle →
      exec (.stop seq []) s = .next (s.answer ⟨seq, 0x11, []⟩ (.code .wrongMode) .nothing)))

/-- A change of mode writes the mode, leaves every channel INHIBITED exactly where its inhibit condition now holds, and
leaves the sets, the profiles, the groups, the tracker and the pins as the manual says; outside RUN no pass is left,
no commit is pending, and no channel drives. A report evaluates the condition afresh. Inhibit on, by the state it finds:
a waiting channel leaves the grant list, a driving one stops with its last stop, its recover timer and its place
released, and the demand, the remembered demand and the manual demand become absent; the origin learns of it, which
removes a served shot with SHOT_END ABORTED where it is reported and ends a pass. Inhibit off leads to RECOVER while the
recover timer runs, else to OFF, where a SHOT output's head is looked at. A report to several channels is the report to
each of them once, in an order the world takes (log 4). A change of mode is the mode written, the report to every
channel, and the Cam Unit's: outside RUN no pass is left, and a pending commit takes effect with CAM_COMMITTED MODE. -/
def Obligations.ModeChangeInhibits : Prop :=
  (∀ (s : State) (m : Mode), DriveRight s →
    (s.changeMode m).mode = m ∧ DriveRight (s.changeMode m) ∧
    (s.changeMode m).profiles = s.profiles ∧ (s.changeMode m).groups = s.groups ∧
    (s.changeMode m).tracker = s.tracker ∧ (s.changeMode m).pins = s.pins ∧
    (m ≠ .run →
      (∀ o, (s.changeMode m).pass o = none) ∧ (s.changeMode m).cam.commitPending = false ∧
      (∀ o, ((s.changeMode m).chan o).state = .inhibited) ∧ (∀ i, ((s.changeMode m).iset i).occupants = []) ∧
      (∀ i, ((s.changeMode m).iset i).grants = []))) ∧
  (∀ (s : State) (o : Output),
    (s.inhibitCondition o = true ↔
      s.mode ≠ .run ∨ ∃ g : GroupId, (s.profile o).groups.getLsbD g.val = true ∧ (s.group g).state ≠ .normal) ∧
    (s.inhibitCondition o = true → s.reportInhibit o = s.inhibitOn o) ∧
    (s.inhibitCondition o = false → (s.chan o).state = .inhibited → s.reportInhibit o = s.inhibitOff o) ∧
    (s.inhibitCondition o = false → (s.chan o).state ≠ .inhibited → s.reportInhibit o = s)) ∧
  (∀ (s : State) (o : Output),
    let c := s.chan o
    let p := s.profile o
    (c.state = .inhibited → s.inhibitOn o = s) ∧
    (c.state = .off → s.inhibitOn o = s.setChan o { c with state := .inhibited, manualDemand := false }) ∧
    (c.state = .recover →
      s.inhibitOn o =
        (s.setChan o { c with state := .inhibited, remembered := none, manualDemand := false }).reportEnded o
          c.remembered) ∧
    (∀ i, c.state = .queued → p.iset = some i →
      s.inhibitOn o =
        ((s.setIset i { s.iset i with grants := (s.iset i).grants.erase o }).setChan o
          { c with state := .inhibited, demand := none, deferTimer := none, manualDemand := false }).reportEnded o
            c.demand) ∧
    (c.driving = true →
      s.inhibitOn o =
        ((s.setChan o
          { c with
            state := .inhibited, demand := none, manualDemand := false, boostTimer := none, maxOnTimer := none
            lastStop := some s.now
            recoverTimer := if p.minOff = 0 then none else some (s.now + BitVec.ofNat 32 p.minOff) }).releasePlace
              o).reportEnded o c.demand) ∧
    (c.state = .overtime →
      s.inhibitOn o =
        (s.setChan o { c with state := .inhibited, demand := none, manualDemand := false }).reportEnded o c.demand) ∧
    (c.recoverTimer ≠ none → s.inhibitOff o = s.setChan o { c with state := .recover }) ∧
    (c.recoverTimer = none → p.source ≠ .shot → s.inhibitOff o = s.setChan o { c with state := .off }) ∧
    (c.recoverTimer = none → p.source = .shot → s.inhibitOff o = (s.setChan o { c with state := .off }).look o)) ∧
  (∀ (s : State) (o : Output),
    (∀ tag e rest, s.queue o = e :: rest → e.served = true →
      s.reportEnded o (some (.shot tag)) =
        if e.report then (s.setQueue o rest).post (.shotEnd o e.tag .aborted e.start e.driveStart s.now)
        else s.setQueue o rest) ∧
    (∀ slot, s.reportEnded o (some (.cam slot)) = s.setPass o none) ∧
    s.reportEnded o (some .manual) = s ∧ s.reportEnded o none = s) ∧
  (∀ (s : State) (os : List Output), ∃ (order : List Output) (choices : List Nat) (picks : Nat), order.Perm os ∧
    s.reportAll os = order.foldl State.reportInhibit { s with choices := choices, picks := picks }) ∧
  (∀ (s : State) (m : Mode),
    let t := State.reportAll { s with mode := m } (List.finRange 16)
    let n := ((List.finRange 96).filter fun i => (rd t.cam.shadow i).isSome).length
    (m = .run → s.changeMode m = t) ∧
    (m ≠ .run → s.cam.commitPending = false →
      s.changeMode m = { t with cam := { t.cam with passes := Vector.replicate 16 none } }) ∧
    (m ≠ .run → s.cam.commitPending = true →
      s.changeMode m =
        State.post
          { t with cam :=
            { t.cam with passes := Vector.replicate 16 none, active := t.cam.shadow, commitPending := false } }
          (.camCommitted .mode s.tracker.cycle n)))

/-! ## Drive channels -/

/-- SET_PROFILE: its refusals in order, and an accepted one, which writes the profile and moves the recover timer. The
recover timer under a new min off-time: a running one moves with the last stop, or stops where that is due; a stopped
one starts where a raised min off-time has not passed; else it stays. -/
def Obligations.ProfileSetAndRecoverMoved : Prop :=
  (∀ (seq : Byte) (body : List Byte) (s : State) (o : Output) (p : Profile),
    s.takes ⟨seq, 0x20, body⟩ = true → decodeSetProfile body = .ok (o, p) →
    let refused (r : Result) := exec (.setProfile seq body) s = .next (s.answer ⟨seq, 0x20, body⟩ (.code r) .nothing)
    let held := (∃ i w, rd s.cam.active i = some w ∧ w.output = o) ∨ (∃ i w, rd s.cam.shadow i = some w ∧ w.output = o)
    (s.mode ≠ .idle → refused .wrongMode) ∧
    (s.mode = .idle → p.source = .cam → s.tracker.cycleLength = 0 → refused .noAngle) ∧
    (s.mode = .idle → p.source ≠ .cam → (s.profile o).source = .cam → held → refused .inUse) ∧
    (s.mode = .idle → (p.source = .cam → s.tracker.cycleLength ≠ 0) →
      ((s.profile o).source = .cam → p.source ≠ .cam → ¬ held) →
      exec (.setProfile seq body) s =
        .next (((s.setProfile o p).setChan o
          { s.chan o with recoverTimer := (s.chan o).recoverUnder s.now (s.profile o).minOff p.minOff }).answer
            ⟨seq, 0x20, body⟩ (.code .ok) .nothing))) ∧
  (∀ (c : Channel) (now : Time) (old new : Nat),
    (c.recoverTimer ≠ none → old = new → c.recoverUnder now old new = c.recoverTimer) ∧
    (∀ stop, c.recoverTimer ≠ none → c.lastStop = some stop → old ≠ new →
      due now (stop + BitVec.ofNat 32 new) = false →
      c.recoverUnder now old new = some (stop + BitVec.ofNat 32 new)) ∧
    (∀ stop, c.recoverTimer ≠ none → c.lastStop = some stop → old ≠ new →
      due now (stop + BitVec.ofNat 32 new) = true → c.recoverUnder now old new = none) ∧
    (∀ stop, c.recoverTimer = none → c.lastStop = some stop → old < new → (now - stop).toNat < new →
      c.recoverUnder now old new = some (stop + BitVec.ofNat 32 new)) ∧
    (∀ stop, c.recoverTimer = none → c.lastStop = some stop → new ≤ old ∨ new ≤ (now - stop).toNat →
      c.recoverUnder now old new = none) ∧
    (c.recoverTimer = none → c.lastStop = none → c.recoverUnder now old new = none))

/-- MANUAL: its refusals in order; a setting that stands already changes nothing. On, in OFF, drives where the output has
no set or its set has room, waits in the grant list of a full set with a defer limit, and is dropped with the conflict
captured by a full set without one; in RECOVER it is remembered. Off ends a drive and releases its place, leaves the
grant list, drops a remembered demand, and leaves OVERTIME. -/
def Obligations.ManualMovesDemand : Prop :=
  ∀ (seq : Byte) (body : List Byte) (s : State) (o : Output) (on : Bool),
    s.takes ⟨seq, 0x22, body⟩ = true → decodeManual body = .ok (o, on) →
    let f : OrderFrame := ⟨seq, 0x22, body⟩
    let c := s.chan o
    let p := s.profile o
    (s.mode ≠ .run → exec (.manual seq body) s = .next (s.answer f (.code .wrongMode) .nothing)) ∧
    (s.mode = .run → p.source ≠ .manual →
      exec (.manual seq body) s = .next (s.answer f (.code .wrongSource) .nothing)) ∧
    (s.mode = .run → p.source = .manual →
      (on = true → c.state = .inhibited →
        exec (.manual seq body) s = .next (s.answer f (.code .inhibited) .nothing)) ∧
      ((on = true → c.state ≠ .inhibited) → c.manualDemand = on →
        exec (.manual seq body) s = .next (s.answer f (.manual c.state on) .nothing)) ∧
      (on = true → c.state = .off → c.manualDemand = false → p.iset = none →
        exec (.manual seq body) s =
          .next ((s.setChan o
            { c with
              manualDemand := true, demand := some .manual, driveStart := some s.now, deferTimer := none, holdPhase := 0
              state := if p.boost = 0 then .hold else .boost
              boostTimer := if p.boost = 0 then none else some (s.now + BitVec.ofNat 32 p.boost)
              maxOnTimer := if p.maxOn = 0 then none else some (s.now + BitVec.ofNat 32 (p.maxOn * 1000)) }).answer f
            (.manual (if p.boost = 0 then .hold else .boost) true) .nothing)) ∧
      (on = true → c.state = .recover → c.manualDemand = false →
        exec (.manual seq body) s =
          .next ((s.setChan o { c with manualDemand := true, remembered := some .manual }).answer f
            (.manual .recover true) .nothing)) ∧
      (on = false → c.driving = true → c.manualDemand = true → p.iset = none →
        exec (.manual seq body) s =
          .next ((s.setChan o
            { c with
              manualDemand := false, demand := none, boostTimer := none, maxOnTimer := none, lastStop := some s.now
              state := if p.minOff = 0 then .off else .recover
              recoverTimer := if p.minOff = 0 then none else some (s.now + BitVec.ofNat 32 p.minOff) }).answer f
            (.manual (if p.minOff = 0 then .off else .recover) false) .nothing)) ∧
      (on = false → c.state = .overtime → c.manualDemand = true → c.recoverTimer ≠ none →
        exec (.manual seq body) s =
          .next ((s.setChan o { c with manualDemand := false, demand := none, state := .recover }).answer f
            (.manual .recover false) .nothing)) ∧
      (∀ i, on = true → c.state = .off → c.manualDemand = false → p.iset = some i →
        let c1 := { c with manualDemand := true, demand := some .manual }
        ((s.iset i).occupants.length < (s.iset i).capacity →
          exec (.manual seq body) s =
            .next ((((s.setChan o c1).setIset i
              { s.iset i with occupants := insertOutput o (s.iset i).occupants }).beginDrive o).answer f
                (.manual (if p.boost = 0 then .hold else .boost) true) .nothing)) ∧
        ((s.iset i).capacity ≤ (s.iset i).occupants.length → (s.iset i).deferLimit ≠ 0 →
          exec (.manual seq body) s =
            .next (((s.setIset i { s.iset i with grants := (s.iset i).grants ++ [o] }).setChan o
              { c1 with
                state := .queued, deferTimer := some (s.now + BitVec.ofNat 32 (s.iset i).deferLimit) }).answer f
                  (.manual .queued true) .nothing)) ∧
        ((s.iset i).capacity ≤ (s.iset i).occupants.length → (s.iset i).deferLimit = 0 →
          exec (.manual seq body) s =
            .next ((((s.setChan o c1).captureConflict o i .manual).setChan o
              { c with manualDemand := false, demand := none }).post (.manualDropped o (some i) s.now) |>.answer f
                (.manual .off false) .nothing))) ∧
      (∀ i, on = false → c.driving = true → c.manualDemand = true → p.iset = some i →
        let t := (s.setChan o
          { c with
            manualDemand := false, demand := none, boostTimer := none, maxOnTimer := none, lastStop := some s.now
            state := if p.minOff = 0 then .off else .recover
            recoverTimer := if p.minOff = 0 then none else some (s.now + BitVec.ofNat 32 p.minOff) }).releasePlace o
        exec (.manual seq body) s = .next (t.answer f (.manual (t.chan o).state false) .nothing)) ∧
      (∀ i, on = false → c.state = .queued → c.manualDemand = true → p.iset = some i →
        exec (.manual seq body) s =
          .next (((s.setIset i { s.iset i with grants := (s.iset i).grants.erase o }).setChan o
            { c with manualDemand := false, state := .off, demand := none, deferTimer := none }).answer f
              (.manual .off false) .nothing)) ∧
      (on = false → c.state = .recover → c.manualDemand = true →
        exec (.manual seq body) s =
          .next ((s.setChan o { c with manualDemand := false, remembered := none }).answer f
            (.manual .recover false) .nothing)) ∧
      (on = false → c.state = .overtime → c.manualDemand = true → c.recoverTimer = none →
        exec (.manual seq body) s =
          .next ((s.setChan o { c with manualDemand := false, demand := none, state := .off }).answer f
            (.manual .off false) .nothing)))

/-- A demand rise in OFF of an output with a set: a set with room takes it in and it drives; a full set with a defer
limit lets it wait in the grant list; a full set without one refuses it, with the conflict captured. A conflict
captured: it fills an absent record and posts CONFLICT; on a present one KEEP_FIRST keeps the contents, KEEP_LATEST
replaces them, and later conflicts is set. The occupants stand in ascending order, an output once. -/
def Obligations.SetAnswersAndCaptures : Prop :=
  (∀ (s : State) (o : Output) (i : SetId) (origin : Origin), (s.profile o).iset = some i →
    let c := { s.chan o with demand := some origin }
    ((s.iset i).occupants.length < (s.iset i).capacity →
      s.riseFromOff o origin =
        (.driven, (((s.setChan o c).setIset i
          { s.iset i with occupants := insertOutput o (s.iset i).occupants }).beginDrive o))) ∧
    ((s.iset i).capacity ≤ (s.iset i).occupants.length → (s.iset i).deferLimit ≠ 0 →
      s.riseFromOff o origin =
        (.queued, (s.setIset i { s.iset i with grants := (s.iset i).grants ++ [o] }).setChan o
          { c with state := .queued, deferTimer := some (s.now + BitVec.ofNat 32 (s.iset i).deferLimit) })) ∧
    ((s.iset i).capacity ≤ (s.iset i).occupants.length → (s.iset i).deferLimit = 0 →
      s.riseFromOff o origin =
        (.refused, ((s.setChan o c).captureConflict o i origin).setChan o { c with demand := none }))) ∧
  (∀ (s : State) (o : Output) (i : SetId) (origin : Origin),
    let r (later : Bool) : ConflictRecord :=
      ⟨o, i, s.now, (s.iset i).occupants, (s.iset i).grants.length, origin, later⟩
    (s.conflict = none →
      s.captureConflict o i origin = State.post { s with conflict := some (r false) } (.conflict o i s.now origin)) ∧
    (∀ old, s.conflict = some old → s.conflictPolicy = .keepFirst →
      s.captureConflict o i origin = { s with conflict := some { old with later := true } }) ∧
    (∀ old, s.conflict = some old → s.conflictPolicy = .keepLatest →
      s.captureConflict o i origin = { s with conflict := some (r true) })) ∧
  (∀ (o : Output) (os : List Output),
    (∀ x, x ∈ insertOutput o os ↔ x = o ∨ x ∈ os) ∧
    (os.Pairwise (· < ·) → (insertOutput o os).Pairwise (· < ·)))

/-- Drive begins: the drive start is now, BOOST with its timer or HOLD, the max-on timer; a shot's DEFERRED head, and no
other entry, becomes ACTIVE with this drive start. A place released: the output leaves its set's occupants, and the head
of the grant list, if there is one, becomes an occupant and drives. An output without a set releases nothing. -/
def Obligations.DriveBeginsAndPlacesPass : Prop :=
  (∀ (s : State) (o : Output),
    let c := s.chan o
    let p := s.profile o
    let s1 := s.setChan o
      { c with
        state := if p.boost = 0 then .hold else .boost
        driveStart := some s.now
        boostTimer := if p.boost = 0 then none else some (s.now + BitVec.ofNat 32 p.boost)
        maxOnTimer := if p.maxOn = 0 then none else some (s.now + BitVec.ofNat 32 (p.maxOn * 1000))
        deferTimer := none
        holdPhase := 0 }
    (∀ tag e rest, c.demand = some (.shot tag) → s.queue o = e :: rest → e.state = .deferred →
      s.beginDrive o = s1.setQueue o ({ e with state := .active s.now } :: rest)) ∧
    ((∀ tag, c.demand ≠ some (.shot tag)) ∨ (∀ e ∈ (s.queue o).head?, e.state ≠ .deferred) →
      s.beginDrive o = s1)) ∧
  (∀ (s : State) (o : Output),
    ((s.profile o).iset = none → s.releasePlace o = s) ∧
    (∀ i, (s.profile o).iset = some i →
      let left := (s.iset i).occupants.erase o
      ((s.iset i).grants = [] → s.releasePlace o = s.setIset i { s.iset i with occupants := left }) ∧
      (∀ h rest, (s.iset i).grants = h :: rest →
        s.releasePlace o =
          (s.setIset i { s.iset i with occupants := insertOutput h left, grants := rest }).beginDrive h)))

/-- The boost, max-on and recover timers: an expiry that is due takes a channel from BOOST to HOLD, cuts a drive into
OVERTIME with its notice, ends RECOVER, where a remembered demand rises or a SHOT output's head is looked at; that one
which is not due is no event is the model's choice (log 3). The defer timer's expiry in QUEUED: the output leaves the
grant list, the conflict is captured, the channel goes to OFF, and the origin learns of it: CAM_SKIPPED for a pass,
MANUAL_DROPPED for MANUAL, SHOT_DROPPED for a shot, whose queue's new head is then looked at. -/
def Obligations.ChannelTimersTaken : Prop :=
  (∀ (s : State) (o : Output), s.inReset = false →
    let c := s.chan o
    let p := s.profile o
    (timerDue s.now c.boostTimer = true → c.state = .boost →
      exec (.boostTimerExpiry o) s =
        .next (s.setChan o { c with state := .hold, boostTimer := none, holdPhase := 0 })) ∧
    (timerDue s.now c.boostTimer = false → exec (.boostTimerExpiry o) s = .next s) ∧
    (timerDue s.now c.maxOnTimer = true → c.driving = true →
      exec (.maxOnTimerExpiry o) s =
        .next (((s.setChan o
          { c with
            state := .overtime, boostTimer := none, maxOnTimer := none, lastStop := some s.now
            recoverTimer := if p.minOff = 0 then none else some (s.now + BitVec.ofNat 32 p.minOff) }).releasePlace
              o).post (.overtime o c.demand c.driveStart s.now))) ∧
    (timerDue s.now c.maxOnTimer = false → exec (.maxOnTimerExpiry o) s = .next s) ∧
    (timerDue s.now c.recoverTimer = true → c.state = .recover → c.remembered = none → p.source ≠ .shot →
      exec (.recoverTimerExpiry o) s = .next (s.setChan o { c with state := .off, recoverTimer := none })) ∧
    (timerDue s.now c.recoverTimer = true → c.state = .recover → c.remembered = none → p.source = .shot →
      exec (.recoverTimerExpiry o) s = .next ((s.setChan o { c with state := .off, recoverTimer := none }).look o)) ∧
    (∀ origin, timerDue s.now c.recoverTimer = true → c.state = .recover → c.remembered = some origin →
      exec (.recoverTimerExpiry o) s =
        .next (State.demandRise (s.setChan o { c with state := .off, recoverTimer := none, remembered := none }) o
          origin)) ∧
    (timerDue s.now c.recoverTimer = true → c.state ≠ .recover →
      exec (.recoverTimerExpiry o) s = .next (s.setChan o { c with recoverTimer := none })) ∧
    (timerDue s.now c.recoverTimer = false → exec (.recoverTimerExpiry o) s = .next s)) ∧
  (∀ (s : State) (o : Output) (i : SetId) (origin : Origin), s.inReset = false →
    (timerDue s.now (s.chan o).deferTimer = false → exec (.deferTimerExpiry o) s = .next s) ∧
    (timerDue s.now (s.chan o).deferTimer = true → (s.chan o).state = .queued → (s.profile o).iset = some i →
      (s.chan o).demand = some origin →
      let s1 := ((s.setIset i { s.iset i with grants := (s.iset i).grants.erase o }).captureConflict o i
        origin).setChan o { s.chan o with state := .off, demand := none, deferTimer := none }
      (origin = .manual →
        exec (.deferTimerExpiry o) s =
          .next ((s1.setChan o
            { s.chan o with state := .off, demand := none, deferTimer := none, manualDemand := false }).post
              (.manualDropped o (some i) s.now))) ∧
      (∀ slot p, origin = .cam slot → s.pass o = some p →
        exec (.deferTimerExpiry o) s =
          .next ((s1.setPass o none).post (.camSkipped o p.slot p.entryCycle .deferExpired s.now))) ∧
      (∀ tag e rest, origin = .shot tag → s.queue o = e :: rest → (s.profile o).source = .shot →
        exec (.deferTimerExpiry o) s =
          .next (((s1.setQueue o rest).post (.shotDropped o e.tag .deferExpired e.start e.grace s.now)).look o))))

/-- The pin: active without interruption in BOOST, for the hold duty's share of each 50 us in HOLD, inactive in every
other state; the active level is the polarity's. TXD rests high; a byte on it is a low start bit, eight data bits, least
significant first, and a high stop bit; the bit that TXD shows follows from how far the frame being sent has gone, which
is counted as log 8 says. -/
def Obligations.PinShowsChannel : Prop :=
  (∀ (s : State) (o : Output) (half : Nat), s.inReset = false →
    let active : Level := match (s.profile o).polarity with | .highActive => .high | .lowActive => .low
    let inactive : Level := match (s.profile o).polarity with | .highActive => .low | .lowActive => .high
    ((s.chan o).state = .boost → s.pinLevel o half = active) ∧
    ((s.chan o).state = .hold →
      s.pinLevel o half =
        if (2 * (s.chan o).holdPhase + half) % 100 < (s.profile o).duty then active else inactive) ∧
    ((s.chan o).state ≠ .boost → (s.chan o).state ≠ .hold → s.pinLevel o half = inactive)) ∧
  (∀ b : Byte,
    let bit (k : Nat) : Level := if b.getLsbD k then .high else .low
    lineBits b = [.low, bit 0, bit 1, bit 2, bit 3, bit 4, bit 5, bit 6, bit 7, .high]) ∧
  (∀ s : State,
    (s.link.tx = none → s.txdLevel = .high) ∧
    (∀ x, s.link.tx = some x → 10 * x.frame.bytes.length ≤ x.progress / 1000000 → s.txdLevel = .high) ∧
    (∀ x n k b, s.link.tx = some x → x.progress / 1000000 = 10 * n + k → k < 10 → x.frame.bytes[n]? = some b →
      some s.txdLevel = (lineBits b)[k]?))

/-! ## Shots -/

/-- A SHOT is refused in IDLE, for its fields, its output's source, its duration, its start: in this order. A SHOT
whose fields and start pass is refused for want of room in the pool or its queue, for a span it shares, or for a start
not after a served head's; the OVERLAP reply names the entry met; with room, no entry met and no served head at or after
the start, these checks pass. Two spans share a moment unless one ends at or
before the other's beginning. An entry is met by its nominal span, from its start to the end of its duration and the min
off-time, and an ACTIVE one also by its actual span, from its drive start; times are read as signed distances from
now. -/
def Obligations.ShotChecked : Prop :=
  (∀ (seq : Byte) (body : List Byte) (s : State) (e : ShotFields), s.takes ⟨seq, 0x30, body⟩ = true →
    decodeShot body = .ok e →
    let refused (r : Result) := exec (.shot seq body) s = .next (s.answer ⟨seq, 0x30, body⟩ (.code r) .nothing)
    (s.mode = .idle → refused .wrongMode) ∧
    (s.mode ≠ .idle → 16 ≤ e.output.toNat ∨ 4 ≤ e.flags.toNat → refused .badField) ∧
    (∀ o : Output, s.mode ≠ .idle → o.val = e.output.toNat → e.flags.toNat < 4 →
      ((s.profile o).source ≠ .shot → refused .wrongSource) ∧
      ((s.profile o).source = .shot → e.duration < 10 ∨ 60000000 < e.duration → refused .badField) ∧
      ((s.profile o).source = .shot → 10 ≤ e.duration → e.duration ≤ 60000000 →
        ((s.profile o).maxOn ≠ 0 → (s.profile o).maxOn * 1000 ≤ e.duration → refused .tooLong) ∧
        ((s.profile o).maxOn = 0 ∨ e.duration < (s.profile o).maxOn * 1000 →
          s.checkFields e = .ok o ∧
          (e.flags.getLsbD 0 = true →
            (60000000 < e.start.toNat → refused .horizon) ∧
            (e.start.toNat ≤ 60000000 → s.checkStart e = .ok (s.now + e.start))) ∧
          (e.flags.getLsbD 0 = false → due s.now e.start = false →
            (60000000 < (e.start - s.now).toNat → refused .horizon) ∧
            ((e.start - s.now).toNat ≤ 60000000 → s.checkStart e = .ok e.start)) ∧
          (e.flags.getLsbD 0 = false → due s.now e.start = true →
            (e.grace < (s.now - e.start).toNat → refused .tooLate) ∧
            ((s.now - e.start).toNat ≤ e.grace → s.checkStart e = .ok e.start)))))) ∧
  ((∀ a b : Int × Int, spansMeet a b = false ↔ a.2 ≤ b.1 ∨ b.2 ≤ a.1) ∧
  (∀ (seq : Byte) (body : List Byte) (s : State) (e : ShotFields) (o : Output) (start : Time),
    s.takes ⟨seq, 0x30, body⟩ = true → decodeShot body = .ok e → s.mode ≠ .idle →
    s.checkFields e = .ok o → s.checkStart e = .ok start →
    let f : OrderFrame := ⟨seq, 0x30, body⟩
    let meets (x : Entry) := x.meets s.now (s.profile o).minOff (spanOf s.now start e.duration (s.profile o).minOff)
    (192 ≤ s.poolUse → exec (.shot seq body) s = .next (s.answer f (.code .poolFull) .nothing)) ∧
    (s.poolUse < 192 → 48 ≤ (s.queue o).length →
      exec (.shot seq body) s = .next (s.answer f (.code .queueFull) .nothing)) ∧
    (s.poolUse < 192 → (s.queue o).length < 48 →
      (∀ pre x post, s.queue o = pre ++ x :: post → (∀ y ∈ pre, meets y = false) → meets x = true →
        exec (.shot seq body) s = .next (s.answer f (.overlap x.tag x.start) .nothing)) ∧
      (∀ h rest, s.queue o = h :: rest → (∀ y ∈ s.queue o, meets y = false) → h.served = true →
        fromNow s.now start ≤ fromNow s.now h.start →
        exec (.shot seq body) s = .next (s.answer f (.overlap h.tag h.start) .nothing))))) ∧
  (∀ (s : State) (o : Output) (start : Time) (duration : Nat), s.poolUse < 192 → (s.queue o).length < 48 →
    (∀ x ∈ s.queue o,
      x.meets s.now (s.profile o).minOff (spanOf s.now start duration (s.profile o).minOff) = false) →
    (∀ h rest, s.queue o = h :: rest → h.served = true → fromNow s.now h.start < fromNow s.now start) →
    s.checkRoom o start duration = none) ∧
  (∀ (now : Time) (n : Nat),
    (n < 2 ^ 31 → fromNow now (now + BitVec.ofNat 32 n) = n) ∧ (n ≤ 2 ^ 31 → fromNow now (now - BitVec.ofNat 32 n) = -n)) ∧
  (∀ s : State, s.poolUse = ((List.finRange 16).map fun o => (s.queue o).length).sum) ∧
  (∀ (now start : Time) (duration minOff : Nat),
    spanOf now start duration minOff = (fromNow now start, fromNow now start + duration + minOff)) ∧
  (∀ (e : Entry) (now : Time) (minOff : Nat) (span : Int × Int),
    let nominal := spansMeet (spanOf now e.start e.duration minOff) span
    ((∀ d, e.state ≠ .active d) → e.meets now minOff span = nominal) ∧
    (∀ d, e.state = .active d →
      (e.meets now minOff span = true ↔ nominal = true ∨ spansMeet (spanOf now d e.duration minOff) span = true)))

/-- A SHOT that passes every check: it joins its queue at the place its start gives, WAITING where the start is not
due, LATE where it is. A LATE one that becomes the head of a free channel fires within the order, whatever stands behind
it: without a set, or with room in its set, it drives; a full set with a defer limit leaves it DEFERRED; a full set
without one drops it with the conflict captured and SHOT_DROPPED, and the new head is looked at. An entry that meets
none leaves its queue in order, the nominal spans disjoint. -/
def Obligations.ShotBooked : Prop :=
  (∀ (now : Time) (e : Entry) (q : List Entry), ∃ a b, q = a ++ b ∧ insertEntry now e q = a ++ e :: b ∧
    (∀ x ∈ a, fromNow now x.start ≤ fromNow now e.start) ∧
    (∀ x ∈ b.head?, fromNow now e.start < fromNow now x.start)) ∧
  (∀ (now : Time) (minOff : Nat) (e : Entry) (q : List Entry),
    let before (x y : Entry) : Prop := fromNow now x.start + x.duration + minOff ≤ fromNow now y.start
    1 ≤ e.duration → q.Pairwise before →
    (∀ x ∈ q, x.meets now minOff (spanOf now e.start e.duration minOff) = false) →
    (insertEntry now e q).Pairwise before) ∧
  (∀ (seq : Byte) (body : List Byte) (s : State) (e : ShotFields) (o : Output) (start : Time),
    s.takes ⟨seq, 0x30, body⟩ = true → decodeShot body = .ok e → s.mode ≠ .idle →
    s.checkFields e = .ok o → s.checkStart e = .ok start → s.checkRoom o start e.duration = none →
    (∀ x ∈ s.queue o, 10 ≤ x.duration) →
    let f : OrderFrame := ⟨seq, 0x30, body⟩
    let entry (st : EntryState) : Entry := ⟨e.tag, start, e.duration, e.grace, e.flags.getLsbD 1, st⟩
    let p := s.profile o
    (due s.now start = false →
      exec (.shot seq body) s =
        .next ((s.setQueue o (insertEntry s.now (entry .waiting) (s.queue o))).answer f
          (.shot start .waiting ((s.queue o).length + 1) (s.poolUse + 1)) .nothing)) ∧
    (due s.now start = true → s.channelFree o = false →
      exec (.shot seq body) s =
        .next ((s.setQueue o (insertEntry s.now (entry .late) (s.queue o))).answer f
          (.shot start .late ((s.queue o).length + 1) (s.poolUse + 1)) .nothing)) ∧
    (due s.now start = true → s.channelFree o = true → s.queue o = [] → p.iset = none →
      exec (.shot seq body) s =
        .next (((s.setChan o
          { s.chan o with
            demand := some (.shot e.tag), driveStart := some s.now, deferTimer := none, holdPhase := 0
            state := if p.boost = 0 then .hold else .boost
            boostTimer := if p.boost = 0 then none else some (s.now + BitVec.ofNat 32 p.boost)
            maxOnTimer := if p.maxOn = 0 then none else some (s.now + BitVec.ofNat 32 (p.maxOn * 1000)) }).setQueue o
              [entry (.active s.now)]).answer f (.shot start .active 1 (s.poolUse + 1)) .nothing)) ∧
    (due s.now start = true → s.channelFree o = true →
      (insertEntry s.now (entry .late) (s.queue o)).head? ≠ some (entry .late) →
      exec (.shot seq body) s =
        .next ((s.setQueue o (insertEntry s.now (entry .late) (s.queue o))).answer f
          (.shot start .late ((s.queue o).length + 1) (s.poolUse + 1)) .nothing)) ∧
    (∀ rest, due s.now start = true → s.channelFree o = true →
      insertEntry s.now (entry .late) (s.queue o) = entry .late :: rest →
      let s1 := s.setQueue o (entry .late :: rest)
      let c1 := { s.chan o with demand := some (.shot e.tag) }
      let booked (t : State) (st : EntryReport) : Prop :=
        exec (.shot seq body) s =
          .next (t.answer f (.shot start st ((s.queue o).length + 1) (s.poolUse + 1)) .nothing)
      (p.iset = none →
        booked (((s1.setChan o c1).beginDrive o).setQueue o (entry (.active s.now) :: rest)) .active) ∧
      (∀ i, p.iset = some i → (s.iset i).occupants.length < (s.iset i).capacity →
        booked ((((s1.setChan o c1).setIset i
          { s.iset i with occupants := insertOutput o (s.iset i).occupants }).beginDrive o).setQueue o
            (entry (.active s.now) :: rest)) .active) ∧
      (∀ i, p.iset = some i → (s.iset i).capacity ≤ (s.iset i).occupants.length → (s.iset i).deferLimit ≠ 0 →
        booked (((s.setIset i { s.iset i with grants := (s.iset i).grants ++ [o] }).setChan o
          { c1 with
            state := .queued, deferTimer := some (s.now + BitVec.ofNat 32 (s.iset i).deferLimit) }).setQueue o
              (entry .deferred :: rest)) .deferred) ∧
      (∀ i, p.iset = some i → (s.iset i).capacity ≤ (s.iset i).occupants.length → (s.iset i).deferLimit = 0 →
        let t := (((((s1.setChan o c1).captureConflict o i (.shot e.tag)).setChan o
          { c1 with demand := none }).setQueue o rest).post
            (.shotDropped o e.tag .deferExpired start e.grace s.now)).look o
        exec (.shot seq body) s =
          .next (t.answer f (.shot start .deferExpired (t.queue o).length t.poolUse) .nothing))))

/-- SHOTS takes its entries in body order, each as a SHOT would be, until one is refused: a batch has a longest prefix
whose entries are booked one after another, and the reply counts these and names the refusal of the next entry, where
there is one. In IDLE it accepts none. -/
def Obligations.BatchBooked : Prop :=
  ∀ (seq : Byte) (body : List Byte) (s : State) (es : List ShotFields), s.takes ⟨seq, 0x31, body⟩ = true →
    decodeShots body = .ok es →
    let f : OrderFrame := ⟨seq, 0x31, body⟩
    let booked (pre : List ShotFields) : Except Refused State :=
      pre.foldlM (fun u e => (u.book e).map fun x => x.2.2) s
    (s.mode = .idle → exec (.shots seq body) s = .next (s.answer f (.shots .wrongMode 0 0 none) .nothing)) ∧
    (∀ t, s.mode ≠ .idle → booked es = .ok t →
      exec (.shots seq body) s = .next (t.answer f (.shots .ok es.length es.length none) .nothing)) ∧
    (∀ pre e rest t r, s.mode ≠ .idle → es = pre ++ e :: rest → booked pre = .ok t → t.book e = .error r →
      exec (.shots seq body) s = .next (t.answer f (.shots r.code pre.length pre.length r.met) .nothing)) ∧
    ((∃ t, booked es = .ok t) ∨ ∃ pre e rest t r, es = pre ++ e :: rest ∧ booked pre = .ok t ∧ t.book e = .error r) ∧
    (∀ (u : State) (e : ShotFields) (o : Output) (start : Time),
      (∀ r, u.checkFields e = .error r → u.book e = .error r) ∧
      (∀ r, u.checkFields e = .ok o → u.checkStart e = .error r → u.book e = .error r) ∧
      (∀ r, u.checkFields e = .ok o → u.checkStart e = .ok start → u.checkRoom o start e.duration = some r →
        u.book e = .error r) ∧
      (u.checkFields e = .ok o → u.checkStart e = .ok start → u.checkRoom o start e.duration = none →
        u.book e = .ok (o, start,
          u.enterQueue o ⟨e.tag, start, e.duration, e.grace, e.flags.getLsbD 1, .waiting⟩)) ∧
      (∀ x : Entry,
        let y : Entry := { x with state := if due u.now x.start then .late else .waiting }
        let q := insertEntry u.now y (u.queue o)
        (q.head? = some y → u.enterQueue o x = (u.setQueue o q).look o) ∧
        (q.head? ≠ some y → u.enterQueue o x = u.setQueue o q)))

/-- CANCEL of one output: it is refused in IDLE; else the matching entries leave the queue, each reported where its
flag asks for it, and are counted; a served head that was removed gives its channel a demand fall. CANCEL of every
output: all removals come first, in ascending order of output, then the falls, in ascending order of output; the look at
a new head whose removed head was not served falls at its output's turn among them, which is the model's choice (log
11). -/
def Obligations.CancelRemoves : Prop :=
  (∀ (seq : Byte) (body : List Byte) (s : State) (o : Output) (tag : Word16) (incl : Bool),
    s.takes ⟨seq, 0x32, body⟩ = true → decodeCancel body = .ok ⟨[o], tag, incl⟩ →
    let f : OrderFrame := ⟨seq, 0x32, body⟩
    let hit (e : Entry) : Bool :=
      decide (e.tag = tag ∧ (e.driveStart.isSome = true → incl = true))
    let gone := (s.queue o).filter hit
    let s1 := gone.foldl
      (fun (t : State) e =>
        if e.report then t.post (.shotEnd o e.tag .cancelled e.start e.driveStart s.now) else t)
      (s.setQueue o ((s.queue o).filter fun e => !hit e))
    (s.mode = .idle → exec (.cancel seq body) s = .next (s.answer f (.code .wrongMode) .nothing)) ∧
    (s.mode ≠ .idle → (∀ h ∈ (s.queue o).head?, hit h = false) →
      exec (.cancel seq body) s = .next (s1.answer f (.cancelled gone.length) .nothing)) ∧
    (∀ h ∈ (s.queue o).head?, s.mode ≠ .idle → hit h = true → h.served = true →
      exec (.cancel seq body) s = .next ((s1.demandFall o).2.answer f (.cancelled gone.length) .nothing)) ∧
    (∀ h ∈ (s.queue o).head?, s.mode ≠ .idle → hit h = true → h.served = false →
      exec (.cancel seq body) s = .next ((s1.look o).answer f (.cancelled gone.length) .nothing))) ∧
  (∀ (seq : Byte) (body : List Byte) (s : State) (outs : List Output) (tag : Word16) (incl : Bool),
    s.takes ⟨seq, 0x32, body⟩ = true → decodeCancel body = .ok ⟨outs, tag, incl⟩ → s.mode ≠ .idle →
    let hit (e : Entry) : Bool :=
      decide (e.tag = tag ∧ (e.driveStart.isSome = true → incl = true))
    let remove (t : State) (o : Output) : State :=
      ((s.queue o).filter hit).foldl
        (fun (t : State) e =>
          if e.report then t.post (.shotEnd o e.tag .cancelled e.start e.driveStart s.now) else t)
        (t.setQueue o ((s.queue o).filter fun e => !hit e))
    let settle (t : State) (o : Output) : State :=
      match s.queue o with
      | h :: _ => if hit h then if h.served then (t.demandFall o).2 else t.look o else t
      | [] => t
    exec (.cancel seq body) s =
      .next ((outs.foldl settle (outs.foldl remove s)).answer ⟨seq, 0x32, body⟩
        (.cancelled (outs.map fun o => ((s.queue o).filter hit).length).sum) .nothing)) ∧
  (∀ (tag : Word16) (incl : Bool),
    decodeCancel (0xFF :: (if incl then 1 else 0) :: bytes16 tag) = .ok ⟨List.finRange 16, tag, incl⟩)

/-- The due events of shots: a start fires the head of a free channel and makes any other entry LATE; a drop time
drops the LATE entry with its notice, wherever it stands; an end time ends the ACTIVE head with its notice and the
drive; that an event which is not due is none is the model's choice (log 3). Firing gives the channel a demand rise: the
entry is ACTIVE where it drives, DEFERRED where it waits in its set, and dropped with DEFER_EXPIRED where the set refuses
it. The look at the head of a free channel drops LATE heads whose drop time is due, then fires the first head that is
LATE or due; a head refused at once leaves the next head to be looked at. Where the look and the drop time of a LATE
head come together, the world picks whether the head is dropped or fires, the model's choice (log 16). A channel is free
in OFF with no demand; the entries served are the DEFERRED and the ACTIVE ones, and an ACTIVE one has its drive
start. -/
def Obligations.ShotEventsTaken : Prop :=
  (∀ (s : State) (o : Output) (e : Entry) (rest : List Entry), s.inReset = false → s.queue o = e :: rest →
    let c := s.chan o
    let p := s.profile o
    (due s.now e.start = true → e.state = .waiting → s.channelFree o = true → p.iset = none →
      exec (.shotStartDue o e.start) s =
        .next ((s.setChan o
          { c with
            demand := some (.shot e.tag), driveStart := some s.now, deferTimer := none, holdPhase := 0
            state := if p.boost = 0 then .hold else .boost
            boostTimer := if p.boost = 0 then none else some (s.now + BitVec.ofNat 32 p.boost)
            maxOnTimer := if p.maxOn = 0 then none else some (s.now + BitVec.ofNat 32 (p.maxOn * 1000)) }).setQueue o
              ({ e with state := .active s.now } :: rest))) ∧
    (due s.now e.start = true → e.state = .waiting → s.channelFree o = false → (∀ x ∈ rest, x.start ≠ e.start) →
      exec (.shotStartDue o e.start) s = .next (s.setQueue o ({ e with state := .late } :: rest))) ∧
    (∀ start, due s.now start = false → exec (.shotStartDue o start) s = .next s) ∧
    (e.state = .late → due s.now (e.start + BitVec.ofNat 32 (e.grace + 1)) = true →
      exec (.shotDropDue o e.start) s =
        .next ((s.setQueue o rest).post (.shotDropped o e.tag .lateDropped e.start e.grace s.now))) ∧
    (e.state = .late → due s.now (e.start + BitVec.ofNat 32 (e.grace + 1)) = false →
      exec (.shotDropDue o e.start) s = .next s) ∧
    (∀ d, e.state = .active d → due s.now (d + BitVec.ofNat 32 e.duration) = true →
      exec (.shotEndDue o) s =
        .next ((if e.report then
            (s.setQueue o rest).post (.shotEnd o e.tag .done e.start (some d) s.now)
          else s.setQueue o rest).demandFall o).2) ∧
    (∀ d, e.state = .active d → due s.now (d + BitVec.ofNat 32 e.duration) = false →
      exec (.shotEndDue o) s = .next s)) ∧
  (∀ (s : State) (o : Output) (e : Entry) (pre post : List Entry), s.inReset = false → s.queue o = pre ++ e :: post →
    (e.state = .waiting → due s.now e.start = true → (∀ x ∈ pre ++ post, x.start ≠ e.start) →
      pre ≠ [] ∨ s.channelFree o = false →
      exec (.shotStartDue o e.start) s = .next (s.setQueue o (pre ++ { e with state := .late } :: post))) ∧
    (e.state = .late → due s.now (e.start + BitVec.ofNat 32 (e.grace + 1)) = true →
      (∀ x ∈ pre, x.state = .late → x.start ≠ e.start) →
      exec (.shotDropDue o e.start) s =
        .next ((s.setQueue o (pre ++ post)).post (.shotDropped o e.tag .lateDropped e.start e.grace s.now)))) ∧
  (∀ (s : State) (o : Output) (e : Entry) (rest : List Entry) (t : State), s.queue o = e :: rest →
    (s.inReset = false → e.state = .waiting → due s.now e.start = true → s.channelFree o = true →
      (s.fireHead o e rest = (false, t) → exec (.shotStartDue o e.start) s = .next t) ∧
      (s.fireHead o e rest = (true, t) → exec (.shotStartDue o e.start) s = .next (t.look o)))) ∧
  (∀ (s : State) (o : Output) (e : Entry) (rest : List Entry),
    let c := { s.chan o with demand := some (.shot e.tag) }
    let p := s.profile o
    (p.iset = none →
      s.fireHead o e rest =
        (false, ((s.setChan o c).beginDrive o).setQueue o ({ e with state := .active s.now } :: rest))) ∧
    (∀ i, p.iset = some i →
      ((s.iset i).occupants.length < (s.iset i).capacity →
        s.fireHead o e rest =
          (false, (((s.setChan o c).setIset i
            { s.iset i with occupants := insertOutput o (s.iset i).occupants }).beginDrive o).setQueue o
              ({ e with state := .active s.now } :: rest))) ∧
      ((s.iset i).capacity ≤ (s.iset i).occupants.length → (s.iset i).deferLimit ≠ 0 →
        s.fireHead o e rest =
          (false, ((s.setIset i { s.iset i with grants := (s.iset i).grants ++ [o] }).setChan o
            { c with state := .queued, deferTimer := some (s.now + BitVec.ofNat 32 (s.iset i).deferLimit) }).setQueue o
              ({ e with state := .deferred } :: rest))) ∧
      ((s.iset i).capacity ≤ (s.iset i).occupants.length → (s.iset i).deferLimit = 0 →
        s.fireHead o e rest =
          (true, ((((s.setChan o c).captureConflict o i (.shot e.tag)).setChan o { c with demand := none }).setQueue o
            rest).post (.shotDropped o e.tag .deferExpired e.start e.grace s.now))))) ∧
  (∀ (s : State) (o : Output),
    (s.channelFree o = false → s.look o = s) ∧ (s.queue o = [] → s.look o = s) ∧
    (∀ e rest, s.queue o = e :: rest → s.channelFree o = true →
      (e.served = true → s.look o = s) ∧
      (e.state = .waiting → due s.now e.start = false → s.look o = s) ∧
      (e.state = .late → due s.now (e.start + BitVec.ofNat 32 (e.grace + 1)) = true →
        e.start + BitVec.ofNat 32 (e.grace + 1) ≠ s.now →
        s.look o =
          ((s.setQueue o rest).post (.shotDropped o e.tag .lateDropped e.start e.grace s.now)).look o) ∧
      (∀ k u t, e.state = .late → e.start + BitVec.ofNat 32 (e.grace + 1) = s.now → s.takePick = (k, u) →
        (k % 2 = 0 →
          s.look o =
            ((u.setQueue o rest).post (.shotDropped o e.tag .lateDropped e.start e.grace s.now)).look o) ∧
        (k % 2 = 1 → u.fireHead o e rest = (false, t) → s.look o = t) ∧
        (k % 2 = 1 → u.fireHead o e rest = (true, t) → s.look o = t.look o)) ∧
      (∀ t,
        e.state = .late ∧ due s.now (e.start + BitVec.ofNat 32 (e.grace + 1)) = false ∨
          e.state = .waiting ∧ due s.now e.start = true →
        (s.fireHead o e rest = (false, t) → s.look o = t) ∧
        (s.fireHead o e rest = (true, t) → s.look o = t.look o)))) ∧
  (∀ s : State,
    (∀ c cs, s.choices = c :: cs → s.takePick = (c, { s with choices := cs })) ∧
    (s.choices = [] → s.takePick = (Config.freePick s.picks, { s with picks := s.picks + 1 }))) ∧
  (∀ (s : State) (o : Output), s.channelFree o = true ↔ (s.chan o).state = .off ∧ (s.chan o).demand = none) ∧
  (∀ e : Entry,
    (e.served = true ↔ e.state = .deferred ∨ ∃ d, e.state = .active d) ∧
    (∀ d, e.driveStart = some d ↔ e.state = .active d))

/-- A demand fall by the channel's state: a waiting channel leaves the grant list; a driving one stops, with its last
stop, its recover timer and its place released; one in OVERTIME or RECOVER gives its demand up; in OFF and INHIBITED
there is none. A channel of a SHOT output that comes to stand in OFF reports free, and its head is looked at. A channel
drives in BOOST and in HOLD. -/
def Obligations.DemandFallTaken : Prop :=
  ∀ (s : State) (o : Output),
    let c := s.chan o
    let p := s.profile o
    let free (t : State) : State := if p.source = .shot then t.look o else t
    let stopped (st : ChannelState) : State :=
      (s.setChan o
        { c with
          demand := none, boostTimer := none, maxOnTimer := none, lastStop := some s.now, state := st
          recoverTimer := if p.minOff = 0 then none else some (s.now + BitVec.ofNat 32 p.minOff) }).releasePlace o
    (c.driving = true ↔ c.state = .boost ∨ c.state = .hold) ∧
    (∀ i, c.state = .queued → p.iset = some i →
      s.demandFall o =
        (true, free ((s.setIset i { s.iset i with grants := (s.iset i).grants.erase o }).setChan o
          { c with state := .off, demand := none, deferTimer := none }))) ∧
    (c.driving = true → p.minOff ≠ 0 → s.demandFall o = (false, stopped .recover)) ∧
    (c.driving = true → p.minOff = 0 → s.demandFall o = (false, free (stopped .off))) ∧
    (c.state = .overtime → c.recoverTimer ≠ none →
      s.demandFall o = (false, s.setChan o { c with state := .recover, demand := none })) ∧
    (c.state = .overtime → c.recoverTimer = none →
      s.demandFall o = (false, free (s.setChan o { c with state := .off, demand := none }))) ∧
    (c.state = .recover →
      s.demandFall o = (c.remembered.isSome, s.setChan o { c with remembered := none })) ∧
    (c.state = .off ∨ c.state = .inhibited → s.demandFall o = (false, s))

/-! ## Cam tables -/

/-- CAM_PUT: its refusals in order, and an accepted one, which writes the lowest empty slot of the shadow. -/
def Obligations.WindowPut : Prop :=
  ∀ (seq : Byte) (body : List Byte) (s : State) (w : Window), s.takes ⟨seq, 0x42, body⟩ = true →
    decodeCamPut body = .ok w →
    let f : OrderFrame := ⟨seq, 0x42, body⟩
    let l := s.tracker.cycleLength
    let refused (r : Result) := exec (.camPut seq body) s = .next (s.answer f (.code r) .nothing)
    (l = 0 → refused .noAngle) ∧
    (l ≠ 0 → s.cam.commitPending = true → refused .commitPending) ∧
    (l ≠ 0 → s.cam.commitPending = false →
      ((s.profile w.output).source ≠ .cam → refused .wrongSource) ∧
      ((s.profile w.output).source = .cam → l ≤ w.onAngle ∨ l ≤ w.offAngle ∨ w.onAngle = w.offAngle →
        refused .badField) ∧
      ((s.profile w.output).source = .cam → w.onAngle < l → w.offAngle < l → w.onAngle ≠ w.offAngle →
        ((∀ i, rd s.cam.shadow i ≠ none) → refused .tableFull) ∧
        (∀ i v, (∃ j, rd s.cam.shadow j = none) → rd s.cam.shadow i = some v → windowsConflict l w v = true →
          (∀ j u, j < i → rd s.cam.shadow j = some u → windowsConflict l w u = false) →
          exec (.camPut seq body) s = .next (s.answer f (.windowOverlap i) .nothing)) ∧
        (∀ i, rd s.cam.shadow i = none → (∀ j, j < i → rd s.cam.shadow j ≠ none) →
          (∀ j u, rd s.cam.shadow j = some u → windowsConflict l w u = false) →
          exec (.camPut seq body) s =
            .next (State.answer { s with cam := { s.cam with shadow := wr s.cam.shadow i (some w) } } f (.camPut i)
              .nothing))))

/-- Two windows of one output conflict when a piece of one shares a position with a piece of the other and their
phases agree modulo the divisors' greatest common divisor: stated for plain windows, for a wrapping one and a plain one,
and for two wrapping ones, whose tails have the phase after their heads'. -/
def Obligations.ConflictOfWindows : Prop :=
  ∀ (l : Nat) (v w : Window),
    (v.output ≠ w.output → windowsConflict l v w = false) ∧
    (v.output = w.output → v.onAngle < v.offAngle → w.onAngle < w.offAngle →
      (windowsConflict l v w = true ↔
        (∃ x, v.onAngle ≤ x ∧ x < v.offAngle ∧ w.onAngle ≤ x ∧ x < w.offAngle) ∧
          v.phase % Nat.gcd v.divisor w.divisor = w.phase % Nat.gcd v.divisor w.divisor)) ∧
    (v.output = w.output → v.offAngle < v.onAngle → w.onAngle < w.offAngle →
      (windowsConflict l v w = true ↔
        (∃ x, v.onAngle ≤ x ∧ x < l ∧ w.onAngle ≤ x ∧ x < w.offAngle) ∧
            v.phase % Nat.gcd v.divisor w.divisor = w.phase % Nat.gcd v.divisor w.divisor ∨
          (∃ x, x < v.offAngle ∧ w.onAngle ≤ x ∧ x < w.offAngle) ∧
            (v.phase + 1) % v.divisor % Nat.gcd v.divisor w.divisor = w.phase % Nat.gcd v.divisor w.divisor)) ∧
    (v.output = w.output → v.offAngle < v.onAngle → w.offAngle < w.onAngle →
      let g := Nat.gcd v.divisor w.divisor
      let vTail := (v.phase + 1) % v.divisor
      let wTail := (w.phase + 1) % w.divisor
      (windowsConflict l v w = true ↔
        (∃ x, v.onAngle ≤ x ∧ w.onAngle ≤ x ∧ x < l) ∧ v.phase % g = w.phase % g ∨
          (∃ x, x < v.offAngle ∧ x < w.offAngle) ∧ vTail % g = wTail % g ∨
          (∃ x, v.onAngle ≤ x ∧ x < l ∧ x < w.offAngle) ∧ v.phase % g = wTail % g ∨
          (∃ x, x < v.offAngle ∧ w.onAngle ≤ x ∧ x < l) ∧ vTail % g = w.phase % g)) ∧
    windowsConflict l v w = windowsConflict l w v

/-- CAM_DROP: refused with NO_ANGLE, COMMIT_PENDING or NO_SUCH_SLOT; else the shadow slot is emptied, and the active
table stays. -/
def Obligations.WindowDropped : Prop :=
  ∀ (seq : Byte) (b : Byte) (s : State), s.takes ⟨seq, 0x43, [b]⟩ = true →
    let f : OrderFrame := ⟨seq, 0x43, [b]⟩
    let refused (r : Result) := exec (.camDrop seq [b]) s = .next (s.answer f (.code r) .nothing)
    (s.tracker.cycleLength = 0 → refused .noAngle) ∧
    (s.tracker.cycleLength ≠ 0 → s.cam.commitPending = true → refused .commitPending) ∧
    (s.tracker.cycleLength ≠ 0 → s.cam.commitPending = false →
      (95 < b.toNat → refused .noSuchSlot) ∧
      (∀ i : Slot, i.val = b.toNat →
        (rd s.cam.shadow i = none → refused .noSuchSlot) ∧
        (rd s.cam.shadow i ≠ none →
          exec (.camDrop seq [b]) s =
            .next (State.answer { s with cam := { s.cam with shadow := wr s.cam.shadow i none } } f (.code .ok)
              .nothing))))

/-- CAM_CLEAR empties the shadow and answers how many windows it held; CAM_COPY makes it a copy of the active table
and answers how many windows it now holds; both are refused with NO_ANGLE or COMMIT_PENDING. -/
def Obligations.ShadowClearedAndCopied : Prop :=
  ∀ (seq : Byte) (s : State),
    let count (t : CamTable) := ((List.finRange 96).filter fun i => (rd t i).isSome).length
    (s.takes ⟨seq, 0x44, []⟩ = true →
      (s.tracker.cycleLength = 0 →
        exec (.camClear seq []) s = .next (s.answer ⟨seq, 0x44, []⟩ (.code .noAngle) .nothing)) ∧
      (s.tracker.cycleLength ≠ 0 → s.cam.commitPending = true →
        exec (.camClear seq []) s = .next (s.answer ⟨seq, 0x44, []⟩ (.code .commitPending) .nothing)) ∧
      (s.tracker.cycleLength ≠ 0 → s.cam.commitPending = false →
        exec (.camClear seq []) s =
          .next (State.answer { s with cam := { s.cam with shadow := Vector.replicate 96 none } } ⟨seq, 0x44, []⟩
            (.windows (count s.cam.shadow)) .nothing))) ∧
    (s.takes ⟨seq, 0x45, []⟩ = true →
      (s.tracker.cycleLength = 0 →
        exec (.camCopy seq []) s = .next (s.answer ⟨seq, 0x45, []⟩ (.code .noAngle) .nothing)) ∧
      (s.tracker.cycleLength ≠ 0 → s.cam.commitPending = true →
        exec (.camCopy seq []) s = .next (s.answer ⟨seq, 0x45, []⟩ (.code .commitPending) .nothing)) ∧
      (s.tracker.cycleLength ≠ 0 → s.cam.commitPending = false →
        exec (.camCopy seq []) s =
          .next (State.answer { s with cam := { s.cam with shadow := s.cam.active } } ⟨seq, 0x45, []⟩
            (.windows (count s.cam.active)) .nothing)))

/-- CAM_COMMIT takes effect at once, with CAM_COMMITTED, unless the mode is RUN and the tracker SYNCED or STALLED,
where it becomes pending; a second one is refused. CAM_ABORT ends a pending commit and leaves both tables; with none
pending it is refused with NOT_PENDING. -/
def Obligations.CommitTakenAndAborted : Prop :=
  (∀ (seq : Byte) (s : State), s.takes ⟨seq, 0x46, []⟩ = true →
    let f : OrderFrame := ⟨seq, 0x46, []⟩
    let n := ((List.finRange 96).filter fun i => (rd s.cam.shadow i).isSome).length
    (s.cam.commitPending = true →
      exec (.camCommit seq []) s = .next (s.answer f (.code .commitPending) .nothing)) ∧
    (s.cam.commitPending = false → s.mode = .run → s.tracker.state = .synced ∨ s.tracker.state = .stalled →
      exec (.camCommit seq []) s =
        .next (State.answer { s with cam := { s.cam with commitPending := true } } f (.commit true n) .nothing)) ∧
    (s.cam.commitPending = false →
      s.mode ≠ .run ∨ s.tracker.state = .off ∨ s.tracker.state = .unsynced ∨ s.tracker.state = .verifying →
      exec (.camCommit seq []) s =
        .next ((State.post { s with cam := { s.cam with active := s.cam.shadow } }
          (.camCommitted .order s.tracker.cycle n)).answer f (.commit false n) .nothing))) ∧
  (∀ (seq : Byte) (s : State), s.takes ⟨seq, 0x47, []⟩ = true →
    (s.cam.commitPending = false →
      exec (.camAbort seq []) s = .next (s.answer ⟨seq, 0x47, []⟩ (.code .notPending) .nothing)) ∧
    (s.cam.commitPending = true →
      exec (.camAbort seq []) s =
        .next (State.answer { s with cam := { s.cam with commitPending := false } } ⟨seq, 0x47, []⟩ (.code .ok)
          .nothing)))

/-! ## Shaft -/

/-- A pulse by the tracker's state: OFF and UNSYNCED ignore it; VERIFYING counts it up to L + tolerance + 1; SYNCED
counts it, with the stall timer restarted and the position handed on where it changed, or loses the index; STALLED
returns to SYNCED first. The stall timer's expiry takes a SYNCED tracker to STALLED, its counts kept, and ends every
cam pass: no pass is left on a cam output. That one which is not due is no event is the model's choice (log 3). -/
def Obligations.PulseAndStallTaken : Prop :=
  (∀ s : State, s.inReset = false →
    let t := s.tracker
    let stall : Option Time :=
      if t.stallTimeout = 0 then none else some (s.now + BitVec.ofNat 32 (t.stallTimeout * 1000))
    (t.state = .off ∨ t.state = .unsynced → exec .encPulse s = .next s) ∧
    (t.state = .verifying → t.pulses ≤ t.cycleLength + t.tolerance →
      exec .encPulse s = .next { s with tracker := { t with pulses := t.pulses + 1 } }) ∧
    (t.state = .verifying → t.pulses = t.cycleLength + t.tolerance + 1 → exec .encPulse s = .next s) ∧
    (t.state = .synced → t.pulses < t.cycleLength + t.tolerance →
      let x := min (t.pulses + 1) (t.cycleLength - 1)
      let s1 : State := { s with tracker := { t with pulses := t.pulses + 1, position := x, stallTimer := stall } }
      (x = t.position → exec .encPulse s = .next s1) ∧
      (x ≠ t.position → s.mode ≠ .run → exec .encPulse s = .next s1) ∧
      (x ≠ t.position → s.mode = .run → exec .encPulse s = .next (s1.camRounds (s1.pulseMove x)))) ∧
    (t.state = .synced → t.pulses = t.cycleLength + t.tolerance →
      exec .encPulse s =
        .next ((State.post
          { s with tracker := { t with state := .unsynced, pulses := 0, position := 0, stallTimer := none } }
            (.tracker .synced .unsynced .indexMissing)).camStateChange .synced .unsynced)) ∧
    (t.state = .stalled →
      exec .encPulse s =
        .next (State.pulseSynced ((State.post
          { s with tracker := { t with state := .synced, stallTimer := stall } }
            (.tracker .stalled .synced .motion)).camStateChange .stalled .synced)))) ∧
  (∀ s : State, s.inReset = false →
    (timerDue s.now s.tracker.stallTimer = true → s.tracker.state = .synced →
      exec .stallTimerExpiry s =
        .next (State.endPasses (State.post
          { s with tracker := { s.tracker with state := .stalled, stallTimer := none } }
            (.tracker .synced .stalled .stall)))) ∧
    (timerDue s.now s.tracker.stallTimer = false → exec .stallTimerExpiry s = .next s) ∧
    (∀ o, (s.profile o).source = .cam → s.endPasses.pass o = none))

/-- An index by the tracker's state and the pulse count: FIRST_INDEX, a turn that measures right or wrong, an accepted
index, SYNC_LOST. -/
def Obligations.IndexTaken : Prop :=
  ∀ s : State, s.inReset = false →
    let t := s.tracker
    let inside := t.cycleLength ≤ t.pulses + t.tolerance ∧ t.pulses ≤ t.cycleLength + t.tolerance
    let stall : Option Time :=
      if t.stallTimeout = 0 then none else some (s.now + BitVec.ofNat 32 (t.stallTimeout * 1000))
    let boundary (u : State) : State :=
      State.camIndex { u with tracker := { u.tracker with cycle := t.cycle + 1, pulses := 0, position := 0 } }
        (t.cycle + 1)
    (t.state = .off → exec .idxIndex s = .next s) ∧
    (t.state = .unsynced →
      exec .idxIndex s =
        .next (State.post { s with tracker := { t with state := .verifying, pulses := 0 } }
          (.tracker .unsynced .verifying .firstIndex))) ∧
    (t.state = .verifying → inside →
      exec .idxIndex s =
        .next (State.post
          { s with tracker :=
            { t with state := .synced, cycle := t.cycle + 1, pulses := 0, position := 0, stallTimer := stall } }
          (.tracker .verifying .synced .verified))) ∧
    (t.state = .verifying → ¬ inside → exec .idxIndex s = .next { s with tracker := { t with pulses := 0 } }) ∧
    (t.state = .synced → inside → exec .idxIndex s = .next (boundary s)) ∧
    (t.state = .stalled → inside →
      exec .idxIndex s =
        .next (boundary (State.post { s with tracker := { t with state := .synced, stallTimer := stall } }
          (.tracker .stalled .synced .motion)))) ∧
    (t.state = .synced ∨ t.state = .stalled → ¬ inside →
      exec .idxIndex s =
        .next ((State.post
          { s with tracker := { t with state := .verifying, pulses := 0, position := 0, stallTimer := none } }
            (.tracker t.state .verifying .syncLost)).camStateChange t.state .verifying))

/-- What a pulse's new position does for one cam output: entry into a window that is active in the cycle and begins
there, exit where the pass's piece ends, both as a handover; a pass whose piece goes on is left alone. What an index
does for one cam output while no commit is pending: a head with a tail to follow keeps its pass on the tail; any other
pass ends, by a handover to a window that begins at 0 or by a fall; no pass may begin one. The moves are given in two
rounds, each in ascending order of output: keeps, handovers and falls, then rises. A handover changes the origin of the
demand or of the remembered demand and nothing else; a fall ends the pass and posts CAM_SKIPPED UNSERVED where the
demand fell unserved; a rise is taken in OFF, remembered in RECOVER, and ends the pass in INHIBITED or at a refusal. A
rise of MANUAL that a set refuses, as a remembered one may be at the end of RECOVER, clears the manual demand and posts
MANUAL_DROPPED. -/
def Obligations.CamMovesDecided : Prop :=
  (∀ (s : State) (x : Nat) (o : Output),
    (∀ p, s.entryAt o x s.tracker.cycle = some p →
      p.entryCycle = s.tracker.cycle ∧
        ∃ w, rd s.cam.active p.slot = some w ∧ w.output = o ∧ w.onAngle = x ∧
          s.tracker.cycle.toNat % w.divisor = w.phase ∧
          p.piece = (if w.offAngle < w.onAngle then .head else .plain)) ∧
    (s.entryAt o x s.tracker.cycle = none →
      ∀ i w, rd s.cam.active i = some w → w.output = o → w.onAngle = x →
        s.tracker.cycle.toNat % w.divisor ≠ w.phase) ∧
    (s.pass o = none → s.entryAt o x s.tracker.cycle = none → s.pulseMove x o = .none) ∧
    (∀ p, s.pass o = none → s.entryAt o x s.tracker.cycle = some p → s.pulseMove x o = .rise p) ∧
    (∀ p w, s.pass o = some p → rd s.cam.active p.slot = some w →
      let inside := match p.piece with
        | .plain => w.onAngle ≤ x ∧ x < w.offAngle
        | .head => w.onAngle ≤ x
        | .tail => x < w.offAngle
      (inside → s.pulseMove x o = .none) ∧
      (¬ inside → s.entryAt o x s.tracker.cycle = none → s.pulseMove x o = .fall) ∧
      (∀ q, ¬ inside → s.entryAt o x s.tracker.cycle = some q → s.pulseMove x o = .handover q))) ∧
  (∀ (s : State) (c : Time) (o : Output),
    (∀ p w, s.pass o = some p → p.piece = .head → rd s.cam.active p.slot = some w → 0 < w.offAngle →
      s.indexMove c o = .keep { p with piece := .tail }) ∧
    (∀ p, s.pass o = some p →
      (p.piece ≠ .head ∨ ∃ w, rd s.cam.active p.slot = some w ∧ w.offAngle = 0) →
      (s.entryAt o 0 c = none → s.indexMove c o = .fall) ∧
      (∀ q, s.entryAt o 0 c = some q → s.indexMove c o = .handover q)) ∧
    (s.pass o = none →
      (s.entryAt o 0 c = none → s.indexMove c o = .none) ∧
      (∀ q, s.entryAt o 0 c = some q → s.indexMove c o = .rise q))) ∧
  (∀ (s : State) (decide : Output → CamMove),
    let outs := (List.finRange 16).filter fun o => (s.profile o).source = .cam
    let first (t : State) (o : Output) : State :=
      match decide o with
      | .keep p => t.setPass o (some p)
      | .handover p => (t.setPass o (some p)).demandHandover o p.slot
      | .fall => t.camFall o
      | _ => t
    let second (t : State) (o : Output) : State :=
      match decide o with
      | .rise p => (t.setPass o (some p)).demandRise o (.cam p.slot)
      | _ => t
    s.camRounds decide = outs.foldl second (outs.foldl first s) ∧ s.endPasses = outs.foldl State.camFall s) ∧
  (∀ (s : State) (o : Output),
    let c := s.chan o
    (∀ slot, c.demand ≠ none → s.demandHandover o slot = s.setChan o { c with demand := some (.cam slot) }) ∧
    (∀ slot, c.demand = none → c.remembered ≠ none →
      s.demandHandover o slot = s.setChan o { c with remembered := some (.cam slot) }) ∧
    (∀ slot, c.demand = none → c.remembered = none → s.demandHandover o slot = s) ∧
    (s.pass o = none → s.camFall o = s) ∧
    (∀ p t, s.pass o = some p → (s.setPass o none).demandFall o = (false, t) → s.camFall o = t) ∧
    (∀ p t, s.pass o = some p → (s.setPass o none).demandFall o = (true, t) →
      s.camFall o = t.post (.camSkipped o p.slot p.entryCycle .unserved s.now)) ∧
    (∀ g, c.state = .recover → s.demandRise o g = s.setChan o { c with remembered := some g }) ∧
    (∀ slot, c.state = .inhibited → s.demandRise o (.cam slot) = s.setPass o none) ∧
    (∀ g t, c.state = .off → s.riseFromOff o g = (.driven, t) ∨ s.riseFromOff o g = (.queued, t) →
      s.demandRise o g = t) ∧
    (∀ slot p t, c.state = .off → s.pass o = some p → s.riseFromOff o (.cam slot) = (.refused, t) →
      s.demandRise o (.cam slot) = (t.setPass o none).post (.camSkipped o p.slot p.entryCycle .deferExpired s.now)) ∧
    (∀ i, c.state = .off → (s.profile o).iset = some i → (s.iset i).capacity ≤ (s.iset i).occupants.length →
      (s.iset i).deferLimit = 0 →
      s.demandRise o .manual =
        (((s.setChan o { c with demand := some .manual }).captureConflict o i .manual).setChan o
          { c with manualDemand := false, demand := none }).post (.manualDropped o (some i) s.now)) ∧
    (c.state = .inhibited → s.demandRise o .manual = s))

/-- A pending commit takes effect whole: at an accepted index in RUN, at a tracker change out of SYNCED and STALLED,
and at the end of RUN the active table becomes the shadow, which stays, and no commit is pending. An index in RUN makes
its moves against the table in force; one that finds a commit pending swaps first, with CAM_COMMITTED, and settles each
cam output against the new table: a pass is carried to a tail of a head active in the cycle just ended, else to a window
that begins at 0, else falls; without a pass only a window that begins at 0 is entered. Where a tail and such a window
both qualify, which R84 rules out, the tail is taken, the model's choice (log 10). A tracker change out of SYNCED ends
every pass; one out of SYNCED and STALLED then takes a pending commit, with CAM_COMMITTED TRACKER; any other does
nothing. -/
def Obligations.PendingCommitLands : Prop :=
  (∀ s : State, s.cam.commitPending = true →
    let landed (t : State) : Prop :=
      t.cam.active = s.cam.shadow ∧ t.cam.shadow = s.cam.shadow ∧ t.cam.commitPending = false
    (∀ c, s.mode = .run → landed (s.camIndex c)) ∧
    (∀ a b, (a = .synced ∨ a = .stalled) → b ≠ .synced → b ≠ .stalled → landed (s.camStateChange a b)) ∧
    (∀ m, m ≠ .run → landed (s.changeMode m)) ∧
    (∀ a b, b = .synced ∨ b = .stalled → (s.camStateChange a b).cam.active = s.cam.active)) ∧
  (∀ (s : State) (c : Time),
    (s.mode ≠ .run → s.camIndex c = s) ∧
    (s.mode = .run → s.cam.commitPending = false → s.camIndex c = s.camRounds (s.indexMove c)) ∧
    (s.mode = .run → s.cam.commitPending = true →
      let n := ((List.finRange 96).filter fun i => (rd s.cam.shadow i).isSome).length
      let t := State.post { s with cam := { s.cam with active := s.cam.shadow, commitPending := false } }
        (.camCommitted .index s.tracker.cycle n)
      s.camIndex c = t.camRounds (t.swapMove c))) ∧
  (∀ (s : State) (c : Time) (o : Output),
    (∀ p, s.carriedTail c o = some p →
      p.piece = .tail ∧ p.entryCycle = c - 1 ∧
        ∃ w, rd s.cam.active p.slot = some w ∧ w.output = o ∧ w.offAngle < w.onAngle ∧ 0 < w.offAngle ∧
          (c - 1).toNat % w.divisor = w.phase) ∧
    (s.carriedTail c o = none →
      ∀ i w, rd s.cam.active i = some w → w.output = o → w.offAngle < w.onAngle → 0 < w.offAngle →
        (c - 1).toNat % w.divisor ≠ w.phase) ∧
    (∀ p q, s.pass o = some p → s.carriedTail c o = some q → s.swapMove c o = .handover q) ∧
    (∀ p q, s.pass o = some p → s.carriedTail c o = none → s.entryAt o 0 c = some q → s.swapMove c o = .handover q) ∧
    (∀ p, s.pass o = some p → s.carriedTail c o = none → s.entryAt o 0 c = none → s.swapMove c o = .fall) ∧
    (∀ q, s.pass o = none → s.entryAt o 0 c = some q → s.swapMove c o = .rise q) ∧
    (s.pass o = none → s.entryAt o 0 c = none → s.swapMove c o = .none)) ∧
  (∀ (s : State) (old new : TrackerState),
    let n := ((List.finRange 96).filter fun i => (rd s.cam.shadow i).isSome).length
    let swapped (t : State) : State :=
      State.post { t with cam := { t.cam with active := s.cam.shadow, commitPending := false } }
        (.camCommitted .tracker s.tracker.cycle n)
    (old = .synced → new = .stalled → s.camStateChange old new = s.endPasses) ∧
    (old = .synced → new ≠ .synced → new ≠ .stalled →
      (s.cam.commitPending = false → s.camStateChange old new = s.endPasses) ∧
      (s.cam.commitPending = true → s.camStateChange old new = swapped s.endPasses)) ∧
    (old = .stalled → new ≠ .synced → new ≠ .stalled →
      (s.cam.commitPending = false → s.camStateChange old new = s) ∧
      (s.cam.commitPending = true → s.camStateChange old new = swapped s)) ∧
    (old = .synced ∧ new = .synced ∨ old = .stalled ∧ (new = .synced ∨ new = .stalled) ∨
        old ≠ .synced ∧ old ≠ .stalled →
      s.camStateChange old new = s))

/-- SET_ANGLE: its refusals in order, and an accepted one, which restarts synchronisation and keeps the cycle count; a
TRACKER notice of cause CONFIG where the state changes. SET_CYCLE writes the cycle count in any mode and nothing else.
-/
def Obligations.AngleAndCycleSet : Prop :=
  (∀ (seq : Byte) (body : List Byte) (s : State) (a : AngleFields), s.takes ⟨seq, 0x40, body⟩ = true →
    decodeSetAngle body = .ok a →
    let f : OrderFrame := ⟨seq, 0x40, body⟩
    let refused (r : Result) := exec (.setAngle seq body) s = .next (s.answer f (.code r) .nothing)
    let camUsed := ∃ o, (s.profile o).source = .cam
    let reached := ∃ i w, (rd s.cam.active i = some w ∨ rd s.cam.shadow i = some w) ∧
      (a.cycleLength ≤ w.onAngle ∨ a.cycleLength ≤ w.offAngle)
    let t : Tracker := ⟨a.cycleLength, a.tolerance, a.stallTimeout, if a.cycleLength = 0 then .off else .unsynced, 0,
      0, s.tracker.cycle, none⟩
    (s.mode ≠ .idle → refused .wrongMode) ∧
    (s.mode = .idle → a.cycleLength ≠ 0 → a.cycleLength ≤ 4 * a.tolerance → refused .badField) ∧
    (s.mode = .idle → a.cycleLength = 0 → camUsed → refused .inUse) ∧
    (s.mode = .idle → 4 * a.tolerance < a.cycleLength → reached → refused .inUse) ∧
    (s.mode = .idle → a.cycleLength = 0 ∧ ¬ camUsed ∨ 4 * a.tolerance < a.cycleLength ∧ ¬ reached →
      (t.state = s.tracker.state →
        exec (.setAngle seq body) s = .next (State.answer { s with tracker := t } f (.code .ok) .nothing)) ∧
      (t.state ≠ s.tracker.state → (∀ o, s.pass o = none) → s.cam.commitPending = false →
        exec (.setAngle seq body) s =
          .next ((State.post { s with tracker := t } (.tracker s.tracker.state t.state .config)).answer f (.code .ok)
            .nothing)))) ∧
  (∀ (seq b0 b1 b2 b3 : Byte) (s : State), s.takes ⟨seq, 0x41, [b0, b1, b2, b3]⟩ = true →
    exec (.setCycle seq [b0, b1, b2, b3]) s =
      .next (State.answer { s with tracker := { s.tracker with cycle := b3 ++ b2 ++ b1 ++ b0 } }
        ⟨seq, 0x41, [b0, b1, b2, b3]⟩ (.code .ok) .nothing))

/-! ## Interlock sets -/

/-- SET_ISET writes the capacity and the defer limit in IDLE and is refused with WRONG_MODE elsewhere. CONFLICT_READ, in
any mode, answers the record as it stood and leaves it absent. -/
def Obligations.IsetSetAndConflictRead : Prop :=
  (∀ (seq : Byte) (body : List Byte) (s : State) (i : SetId) (capacity limit : Nat),
    s.takes ⟨seq, 0x50, body⟩ = true → decodeSetIset body = .ok ⟨i, capacity, limit⟩ →
    (s.mode ≠ .idle →
      exec (.setIset seq body) s = .next (s.answer ⟨seq, 0x50, body⟩ (.code .wrongMode) .nothing)) ∧
    (s.mode = .idle →
      exec (.setIset seq body) s =
        .next ((s.setIset i ⟨capacity, limit, (s.iset i).occupants, (s.iset i).grants⟩).answer ⟨seq, 0x50, body⟩
          (.code .ok) .nothing))) ∧
  (∀ (seq : Byte) (s : State), s.takes ⟨seq, 0x53, []⟩ = true →
    exec (.conflictRead seq []) s =
      .next (State.answer { s with conflict := none } ⟨seq, 0x53, []⟩ (.conflict s.conflict) .nothing))

/-- SET_CONFLICT, in any mode, replaces the conflict policy and leaves the record; other values are BAD_FIELD. -/
def Obligations.ConflictPolicySet : Prop :=
  ∀ (seq b : Byte) (s : State), s.takes ⟨seq, 0x52, [b]⟩ = true →
    (b = 0 → exec (.setConflict seq [b]) s =
      .next (State.answer { s with conflictPolicy := .keepFirst } ⟨seq, 0x52, [b]⟩ (.code .ok) .nothing)) ∧
    (b = 1 → exec (.setConflict seq [b]) s =
      .next (State.answer { s with conflictPolicy := .keepLatest } ⟨seq, 0x52, [b]⟩ (.code .ok) .nothing)) ∧
    (b ≠ 0 → b ≠ 1 → exec (.setConflict seq [b]) s =
      .next (s.answer ⟨seq, 0x52, [b]⟩ (.code .badField) .nothing)) ∧
    State.reset.conflictPolicy = .keepFirst

/-! ## Trip Unit -/

/-- SET_FAULTIN and SET_RAIL write their records in IDLE, with the sources inactive; the sources that were active make
one source change. The time of the next sample that an order leaves with the monitor disabled, 0, is the model's choice
(log 7). -/
def Obligations.SensorsSet : Prop :=
  (∀ (seq : Byte) (body : List Byte) (s : State) (a : FaultinFields), s.takes ⟨seq, 0x60, body⟩ = true →
    decodeSetFaultin body = .ok a →
    let f : OrderFrame := ⟨seq, 0x60, body⟩
    let s1 := s.setFaultIn a.input
      ⟨a.activeLevel, a.period, a.depth, (match a.activeLevel with | .high => .low | .low => .high), 0,
        s.now + BitVec.ofNat 32 a.period⟩
    (s.mode ≠ .idle → exec (.setFaultin seq body) s = .next (s.answer f (.code .wrongMode) .nothing)) ∧
    (s.mode = .idle → (s.faultIn a.input).filtered ≠ (s.faultIn a.input).activeLevel →
      exec (.setFaultin seq body) s = .next (s1.answer f (.code .ok) .nothing)) ∧
    (s.mode = .idle → (s.faultIn a.input).filtered = (s.faultIn a.input).activeLevel →
      exec (.setFaultin seq body) s =
        .next ((s1.sourceChange (BitVec.ofNat 8 (2 ^ a.input.val))).answer f (.code .ok) .nothing))) ∧
  (∀ (seq : Byte) (body : List Byte) (s : State) (a : RailFields), s.takes ⟨seq, 0x61, body⟩ = true →
    decodeSetRail body = .ok a →
    let f : OrderFrame := ⟨seq, 0x61, body⟩
    let s1 : State := { s with rail :=
      { enable := a.enable, low := a.low, high := a.high, depth := a.depth, lastSample := s.rail.lastSample,
        lowRun := 0, highRun := 0, lowActive := false, highActive := false,
        nextSample := if a.enable then s.now + 100 else 0 } }
    (s.mode ≠ .idle → exec (.setRail seq body) s = .next (s.answer f (.code .wrongMode) .nothing)) ∧
    (s.mode = .idle → a.high ≤ a.low → exec (.setRail seq body) s = .next (s.answer f (.code .badField) .nothing)) ∧
    (s.mode = .idle → a.low < a.high → s.rail.lowActive = false → s.rail.highActive = false →
      exec (.setRail seq body) s = .next (s1.answer f (.code .ok) .nothing)) ∧
    (s.mode = .idle → a.low < a.high → s.rail.lowActive = true → s.rail.highActive = false →
      exec (.setRail seq body) s = .next ((s1.sourceChange 0x20).answer f (.code .ok) .nothing)) ∧
    (s.mode = .idle → a.low < a.high → s.rail.lowActive = false → s.rail.highActive = true →
      exec (.setRail seq body) s = .next ((s1.sourceChange 0x40).answer f (.code .ok) .nothing)) ∧
    (s.mode = .idle → a.low < a.high → s.rail.lowActive = true → s.rail.highActive = true →
      exec (.setRail seq body) s = .next ((s1.sourceChange 0x60).answer f (.code .ok) .nothing)))

/-- A fault input's sample that is due: a level that agrees clears the run; one that differs adds to it, and at the
depth moves the filtered level, which is a source change. A sample that is not due moves the pin alone. A rail sample:
with the monitor disabled or the sample not due the pin moves alone; else the clamped sample is kept and judged
against both limits, and the sources that changed make one source change. -/
def Obligations.SensorsSampled : Prop :=
  (∀ (s : State) (i : InputId) (level : Level), s.inReset = false →
    let x := s.faultIn i
    let s1 : State := { s with pins := { s.pins with faults := wr s.pins.faults i level } }
    let next : Time := x.nextSample + BitVec.ofNat 32 x.period
    (due s.now x.nextSample = false → exec (.faultSample i level) s = .next s1) ∧
    (due s.now x.nextSample = true → level = x.filtered →
      exec (.faultSample i level) s = .next (s1.setFaultIn i { x with run := 0, nextSample := next })) ∧
    (due s.now x.nextSample = true → level ≠ x.filtered → x.run + 1 < x.depth →
      exec (.faultSample i level) s = .next (s1.setFaultIn i { x with run := x.run + 1, nextSample := next })) ∧
    (due s.now x.nextSample = true → level ≠ x.filtered → x.depth ≤ x.run + 1 →
      exec (.faultSample i level) s =
        .next (State.sourceChange (s1.setFaultIn i { x with filtered := level, run := 0, nextSample := next })
          (BitVec.ofNat 8 (2 ^ i.val))))) ∧
  (∀ (s : State) (v : Int), s.inReset = false →
    let m := s.rail
    let x : Nat := if v < 0 then 0 else if 600 < v then 600 else v.toNat
    let s1 : State := { s with pins := { s.pins with rail := v } }
    let lowAdds := if m.lowActive then decide (m.low ≤ x) else decide (x < m.low)
    let highAdds := if m.highActive then decide (x ≤ m.high) else decide (m.high < x)
    let lowFlips := lowAdds && decide (m.depth ≤ m.lowRun + 1)
    let highFlips := highAdds && decide (m.depth ≤ m.highRun + 1)
    let s2 : State := { s1 with rail :=
      { m with
        lastSample := x, nextSample := m.nextSample + 100
        lowActive := m.lowActive ^^ lowFlips, lowRun := if lowAdds && !lowFlips then m.lowRun + 1 else 0
        highActive := m.highActive ^^ highFlips, highRun := if highAdds && !highFlips then m.highRun + 1 else 0 } }
    (m.enable = false ∨ due s.now m.nextSample = false → exec (.railSample v) s = .next s1) ∧
    (m.enable = true → due s.now m.nextSample = true → lowFlips = false → highFlips = false →
      exec (.railSample v) s = .next s2) ∧
    (m.enable = true → due s.now m.nextSample = true → lowFlips = true → highFlips = false →
      exec (.railSample v) s = .next (s2.sourceChange 0x20)) ∧
    (m.enable = true → due s.now m.nextSample = true → lowFlips = false → highFlips = true →
      exec (.railSample v) s = .next (s2.sourceChange 0x40)) ∧
    (m.enable = true → due s.now m.nextSample = true → lowFlips = true → highFlips = true →
      exec (.railSample v) s = .next (s2.sourceChange 0x60)))

/-- A group at a source change: it trips from NORMAL when a watched source is active, starts its restore in AUTO when
it is clear, and goes back to TRIPPED from RELEASING; a change of a source it does not watch does not reach it. A source
change reaches each group that is set to watch one of its sources, in ascending order. The shared sources that are
active are the fault inputs at their active levels, LINK, RAIL_LOW and RAIL_HIGH, bit by bit. The restore timer's expiry
in RELEASING takes the group to NORMAL, with GROUP_RELEASED RESTORED before its members' report; one that is not due, or
finds another state, is no event. -/
def Obligations.GroupMovesByTable : Prop :=
  (∀ (s : State) (g : GroupId),
    let x := s.group g
    let clear : Bool := (x.sources &&& s.sharedSources) = 0 && !x.hostTrip
    (s.groupClear g = clear) ∧
    (x.state = .normal → clear = true → s.evalGroup g = s) ∧
    (x.state = .normal → clear = false → s.evalGroup g = s.tripStart g) ∧
    (x.state = .tripped → clear = false ∨ x.releaseMode = .manual → s.evalGroup g = s) ∧
    (x.state = .tripped → clear = true → x.releaseMode = .auto → x.restoreDelay ≠ 0 →
      s.evalGroup g = s.setGroup g
        { x with state := .releasing, restoreTimer := some (s.now + BitVec.ofNat 32 (x.restoreDelay * 1000)) }) ∧
    (x.state = .tripped → clear = true → x.releaseMode = .auto → x.restoreDelay = 0 →
      s.evalGroup g = s.releaseGroup g .restored) ∧
    (x.state = .releasing → clear = true → s.evalGroup g = s) ∧
    (x.state = .releasing → clear = false →
      s.evalGroup g = s.setGroup g { x with state := .tripped, restoreTimer := none }) ∧
    (∀ mask : Byte, (∀ k, (s.group k).sources &&& mask = 0) → s.sourceChange mask = s)) ∧
  (∀ (s : State) (mask : Byte),
    s.sourceChange mask =
      ((List.finRange 4).filter fun g => decide ((s.group g).sources &&& mask ≠ 0)).foldl State.evalGroup s) ∧
  (∀ s : State,
    (∀ i : InputId,
      s.sharedSources.getLsbD i.val = true ↔ (s.faultIn i).filtered = (s.faultIn i).activeLevel) ∧
    s.sharedSources.getLsbD 4 = s.link.linkActive ∧ s.sharedSources.getLsbD 5 = s.rail.lowActive ∧
    s.sharedSources.getLsbD 6 = s.rail.highActive ∧ s.sharedSources.getLsbD 7 = false) ∧
  (∀ (s : State) (g : GroupId), s.inReset = false →
    (timerDue s.now (s.group g).restoreTimer = true → (s.group g).state = .releasing →
      exec (.restoreTimerExpiry g) s =
        .next (((s.setGroup g { s.group g with state := .normal, restoreTimer := none }).post
          (.groupReleased g .restored s.now)).reportAll
            ((List.finRange 16).filter fun o => (s.profile o).groups.getLsbD g.val))) ∧
    (timerDue s.now (s.group g).restoreTimer = false ∨ (s.group g).state ≠ .releasing →
      exec (.restoreTimerExpiry g) s = .next s))

/-- A trip start: the group is TRIPPED, its members take the report, under PURGE their queues are emptied and counted,
and GROUP_TRIPPED goes last, with the watched sources active and the count. Every member is left INHIBITED, with the
sets, the grant lists and the other groups as the manual says. -/
def Obligations.TripStartTaken : Prop :=
  ∀ (s : State) (g : GroupId),
    let x := s.group g
    let members := (List.finRange 16).filter fun o => (s.profile o).groups.getLsbD g.val
    let active := (x.sources &&& s.sharedSources) ||| (if x.hostTrip then 0x80 else 0)
    let s1 := (s.setGroup g { x with state := .tripped, restoreTimer := none }).reportAll members
    (x.policy = .keep → s.tripStart g = s1.post (.groupTripped g active 0 s.now)) ∧
    (x.policy = .purge →
      ∃ u : State, s.tripStart g =
          u.post (.groupTripped g active ((members.map fun o => (s1.queue o).length).sum) s.now) ∧
        { u with queues := s1.queues } = s1 ∧
        (∀ o, (s.profile o).groups.getLsbD g.val = true → u.queue o = []) ∧
        (∀ o, (s.profile o).groups.getLsbD g.val = false → u.queue o = s1.queue o)) ∧
    (DriveRight s → x.state = .normal →
      ((s.tripStart g).group g = { x with state := .tripped, restoreTimer := none } ∧
        (∀ k, k ≠ g → (s.tripStart g).group k = s.group k) ∧ DriveRight (s.tripStart g) ∧
        (∀ o, (s.profile o).groups.getLsbD g.val = true → ((s.tripStart g).chan o).state = .inhibited) ∧
        (s.tripStart g).mode = s.mode ∧ (s.tripStart g).tracker = s.tracker ∧
        (s.tripStart g).profiles = s.profiles ∧ (s.tripStart g).pins = s.pins))

/-- TRIP sets the host-trip flag of the groups named; RELEASE clears the flag of one group and releases it in MANUAL,
refused with NOT_TRIPPED or SOURCES_ACTIVE. A released group is NORMAL, its restore timer stopped; GROUP_RELEASED with
how it was released is posted, and then its members take the report. -/
def Obligations.HostTripsAndReleases : Prop :=
  (∀ (seq m : Byte) (s : State), s.takes ⟨seq, 0x63, [m]⟩ = true → m.toNat < 16 →
    let f : OrderFrame := ⟨seq, 0x63, [m]⟩
    let trip (u : State) (g : GroupId) : State :=
      if m.getLsbD g.val = true ∧ (u.group g).hostTrip = false then
        State.evalGroup (u.setGroup g { u.group g with hostTrip := true }) g
      else u
    let t := trip (trip (trip (trip s 0) 1) 2) 3
    exec (.trip seq [m]) s =
      .next (t.answer f (.trip [(t.group 0).state, (t.group 1).state, (t.group 2).state, (t.group 3).state])
        .nothing)) ∧
  (∀ (seq b : Byte) (s : State) (g : GroupId), s.takes ⟨seq, 0x64, [b]⟩ = true → g.val = b.toNat →
    let f : OrderFrame := ⟨seq, 0x64, [b]⟩
    let x := s.group g
    let s1 := s.setGroup g { x with hostTrip := false }
    (x.state = .normal → exec (.release seq [b]) s = .next (s.answer f (.code .notTripped) .nothing)) ∧
    (x.state ≠ .normal → x.releaseMode = .manual → x.sources &&& s.sharedSources ≠ 0 →
      exec (.release seq [b]) s =
        .next (s.answer f (.sourcesActive (x.sources &&& s.sharedSources)) .nothing)) ∧
    (x.state ≠ .normal → x.releaseMode = .manual → x.sources &&& s.sharedSources = 0 →
      exec (.release seq [b]) s =
        .next ((s1.releaseGroup g .order).answer f (.groupState .normal) .nothing)) ∧
    (x.state ≠ .normal → x.releaseMode = .auto → x.hostTrip = false →
      exec (.release seq [b]) s = .next (s.answer f (.groupState x.state) .nothing)) ∧
    (x.state ≠ .normal → x.releaseMode = .auto → x.hostTrip = true →
      exec (.release seq [b]) s =
        .next ((s1.evalGroup g).answer f (.groupState ((s1.evalGroup g).group g).state) .nothing))) ∧
  (∀ (s : State) (g : GroupId) (how : ReleaseHow),
    s.releaseGroup g how =
      ((s.setGroup g { s.group g with state := .normal, restoreTimer := none }).post
        (.groupReleased g how s.now)).reportAll
          ((List.finRange 16).filter fun o => (s.profile o).groups.getLsbD g.val))

/-- SET_TGROUP stores its four fields in IDLE, keeps the host-trip flag, evaluates the group, and answers OK; elsewhere
it is refused with WRONG_MODE. The OK reply carries the group's state after the evaluation, as R127 says; R175's row for
every other order has nothing there, and that R127 holds is the model's deduction (log 14). -/
def Obligations.TripGroupSet : Prop :=
  ∀ (seq : Byte) (body : List Byte) (s : State) (a : TgroupFields), s.takes ⟨seq, 0x62, body⟩ = true →
    decodeSetTgroup body = .ok a →
    let f : OrderFrame := ⟨seq, 0x62, body⟩
    let x := s.group a.group
    let y : TripGroup := ⟨a.sources, a.releaseMode, a.restoreDelay, a.policy, x.state, x.hostTrip, x.restoreTimer⟩
    let s1 := s.setGroup a.group y
    let clear : Bool := (a.sources &&& s.sharedSources) = 0 && !x.hostTrip
    let timer : Option Time := some (s.now + BitVec.ofNat 32 (a.restoreDelay * 1000))
    let becomes (t : State) (st : GroupState) :=
      exec (.setTgroup seq body) s = .next (t.answer f (.groupState st) .nothing)
    (s.mode ≠ .idle → exec (.setTgroup seq body) s = .next (s.answer f (.code .wrongMode) .nothing)) ∧
    (s.mode = .idle →
      (x.state = .normal → clear = true → becomes s1 .normal) ∧
      (x.state = .normal → clear = false → becomes (s1.tripStart a.group) .tripped) ∧
      (x.state = .tripped → clear = false ∨ a.releaseMode = .manual → becomes s1 .tripped) ∧
      (x.state ≠ .normal → clear = true → a.releaseMode = .auto → a.restoreDelay ≠ 0 →
        becomes (s.setGroup a.group { y with state := .releasing, restoreTimer := timer }) .releasing) ∧
      (x.state ≠ .normal → clear = true → a.releaseMode = .auto → a.restoreDelay = 0 →
        becomes (s1.releaseGroup a.group .restored) .normal) ∧
      (x.state = .releasing → clear = false ∨ a.releaseMode = .manual →
        becomes (s.setGroup a.group { y with state := .tripped, restoreTimer := none }) .tripped))

/-! ## Invariants -/

/-- Every step keeps the bounds of the link's queues and of the notices, the transmitter idle only while nothing waits,
no order waiting while the decoder may take one, and the link timer stopped and LINK inactive under a link timeout of 0
(R156). R152 has the decoder take an order at once, as an event of its own; that the taking belongs to the step of the
event that sets it off, so that none waits after a step, is the model's choice (log 2). -/
def Obligations.LinkBoundsKept : Prop :=
  ∀ s t : State, LinkBounds s ∧ NothingHeldBack s ∧ OrdersTaken s ∧ LinkTimed s → step s = .next t →
    LinkBounds t ∧ NothingHeldBack t ∧ OrdersTaken t ∧ LinkTimed t

/-- Every step keeps the pool's and the queues' bounds, only heads served, and entries only outside IDLE and on outputs
with source SHOT. -/
def Obligations.ShotQueuesKept : Prop :=
  ∀ s t : State, PoolBounds s ∧ OnlyHeadServed s ∧ QueuesPlaced s → step s = .next t →
    PoolBounds t ∧ OnlyHeadServed t ∧ QueuesPlaced t

/-- Every step keeps the interlock sets, the grant lists and the inhibits as the manual says: a set's occupants are its
members in BOOST or HOLD and never more than its capacity, its grant list its members in QUEUED, and a channel is
INHIBITED exactly while its inhibit condition holds. -/
def Obligations.DriveRightKept : Prop :=
  ∀ s t : State, DriveRight s → step s = .next t → DriveRight t

/-- Every step keeps every channel's record right by its state, beside the sets. -/
def Obligations.ChannelsRightKept : Prop :=
  ∀ s t : State, ChannelsRight s → step s = .next t → ChannelsRight t

/-- Every step keeps the tracker's record right by its state, and a commit pending only in RUN with the tracker SYNCED
or STALLED. -/
def Obligations.TrackerRightKept : Prop :=
  ∀ s t : State, s.tracker.right ∧ CommitRight s → step s = .next t → t.tracker.right ∧ CommitRight t

/-- Every step keeps the passes where the manual has them: in RUN, with the tracker SYNCED, on outputs with source
CAM. -/
def Obligations.PassesKept : Prop :=
  ∀ s t : State, PassesPlaced s → step s = .next t → PassesPlaced t

/-- Every step keeps the windows of both tables in range and on outputs with source CAM. -/
def Obligations.TablesRightKept : Prop :=
  ∀ s t : State, TablesRight s → step s = .next t → TablesRight t

/-- While the windows stand in range and on cam outputs, every step keeps each table free of windows that conflict. -/
def Obligations.NoConflictsKept : Prop :=
  ∀ s t : State, TablesRight s → TablesDisjoint s → step s = .next t → TablesDisjoint t

/-- Every step keeps the filters' runs below their depths and every group's state in step with its sources. -/
def Obligations.TripUnitKept : Prop :=
  ∀ s t : State, FiltersRight s ∧ GroupsRight s → step s = .next t → FiltersRight t ∧ GroupsRight t

/-- The machine after reset has every invariant stated here. -/
def Obligations.ResetHasInvariants : Prop :=
  (LinkBounds State.reset ∧ NothingHeldBack State.reset ∧ OrdersTaken State.reset ∧ LinkTimed State.reset) ∧
    (PoolBounds State.reset ∧ OnlyHeadServed State.reset ∧ QueuesPlaced State.reset) ∧ ChannelsRight State.reset ∧
    (State.reset.tracker.right ∧ CommitRight State.reset) ∧ PassesPlaced State.reset ∧ TablesRight State.reset ∧
    TablesDisjoint State.reset ∧ FiltersRight State.reset ∧ GroupsRight State.reset

end
end

