-- ==== Sys2Proof/Laws/State.lean ====
section
/-! SUPPORT. What each write of one place leaves of every field of the state, and what a read of a place gives after
it. -/

namespace Sys2Proof.Machine

/-! ## One of several like things -/

theorem rd_wr_self {α : Type} {n : Nat} (v : Vector α n) (i : Fin n) (x : α) : rd (wr v i x) i = x := by
  simp [rd, wr]

theorem rd_wr_ne {α : Type} {n : Nat} (v : Vector α n) {i j : Fin n} (x : α) (h : i ≠ j) : rd (wr v i x) j = rd v j := by
  have : i.val ≠ j.val := fun e => h (Fin.ext e)
  simp [rd, wr, Vector.getElem_set_ne, this]

theorem rd_wr {α : Type} {n : Nat} (v : Vector α n) (i j : Fin n) (x : α) :
    rd (wr v i x) j = if j = i then x else rd v j := by
  by_cases h : j = i
  · subst h; simp [rd_wr_self]
  · simp [h, rd_wr_ne v x (Ne.symm h)]

theorem rd_replicate {α : Type} {n : Nat} (x : α) (i : Fin n) : rd (Vector.replicate n x) i = x := by
  simp [rd]

theorem wr_wr {α : Type} {n : Nat} (v : Vector α n) (i : Fin n) (x y : α) : wr (wr v i x) i y = wr v i y := by
  simp [wr, Vector.set_set]

theorem wr_rd {α : Type} {n : Nat} (v : Vector α n) (i : Fin n) : wr v i (rd v i) = v := by
  simp [wr, rd]

/-! ## Fields after a write -/

section setProfile
variable (s : State) (o : Output) (x : Profile)
@[simp] theorem State.setProfile_pending : (s.setProfile o x).pending = s.pending := rfl
@[simp] theorem State.setProfile_now : (s.setProfile o x).now = s.now := rfl
@[simp] theorem State.setProfile_mode : (s.setProfile o x).mode = s.mode := rfl
@[simp] theorem State.setProfile_resetCause : (s.setProfile o x).resetCause = s.resetCause := rfl
@[simp] theorem State.setProfile_tracker : (s.setProfile o x).tracker = s.tracker := rfl
@[simp] theorem State.setProfile_channels : (s.setProfile o x).channels = s.channels := rfl
@[simp] theorem State.setProfile_queues : (s.setProfile o x).queues = s.queues := rfl
@[simp] theorem State.setProfile_cam : (s.setProfile o x).cam = s.cam := rfl
@[simp] theorem State.setProfile_isets : (s.setProfile o x).isets = s.isets := rfl
@[simp] theorem State.setProfile_conflict : (s.setProfile o x).conflict = s.conflict := rfl
@[simp] theorem State.setProfile_conflictPolicy : (s.setProfile o x).conflictPolicy = s.conflictPolicy := rfl
@[simp] theorem State.setProfile_faultIns : (s.setProfile o x).faultIns = s.faultIns := rfl
@[simp] theorem State.setProfile_rail : (s.setProfile o x).rail = s.rail := rfl
@[simp] theorem State.setProfile_groups : (s.setProfile o x).groups = s.groups := rfl
@[simp] theorem State.setProfile_link : (s.setProfile o x).link = s.link := rfl
@[simp] theorem State.setProfile_notices : (s.setProfile o x).notices = s.notices := rfl
@[simp] theorem State.setProfile_pins : (s.setProfile o x).pins = s.pins := rfl
@[simp] theorem State.setProfile_choices : (s.setProfile o x).choices = s.choices := rfl
@[simp] theorem State.setProfile_picks : (s.setProfile o x).picks = s.picks := rfl
theorem State.setProfile_profile (j : Output) : (s.setProfile o x).profile j = if j = o then x else s.profile j := rd_wr _ _ _ _
@[simp] theorem State.setProfile_profile_self : (s.setProfile o x).profile o = x := rd_wr_self _ _ _
@[simp] theorem State.setProfile_chan (j : Output) : (s.setProfile o x).chan j = s.chan j := rfl
@[simp] theorem State.setProfile_queue (j : Output) : (s.setProfile o x).queue j = s.queue j := rfl
@[simp] theorem State.setProfile_pass (j : Output) : (s.setProfile o x).pass j = s.pass j := rfl
@[simp] theorem State.setProfile_iset (j : SetId) : (s.setProfile o x).iset j = s.iset j := rfl
@[simp] theorem State.setProfile_faultIn (j : InputId) : (s.setProfile o x).faultIn j = s.faultIn j := rfl
@[simp] theorem State.setProfile_group (j : GroupId) : (s.setProfile o x).group j = s.group j := rfl
end setProfile

section setChan
variable (s : State) (o : Output) (x : Channel)
@[simp] theorem State.setChan_pending : (s.setChan o x).pending = s.pending := rfl
@[simp] theorem State.setChan_now : (s.setChan o x).now = s.now := rfl
@[simp] theorem State.setChan_mode : (s.setChan o x).mode = s.mode := rfl
@[simp] theorem State.setChan_resetCause : (s.setChan o x).resetCause = s.resetCause := rfl
@[simp] theorem State.setChan_tracker : (s.setChan o x).tracker = s.tracker := rfl
@[simp] theorem State.setChan_profiles : (s.setChan o x).profiles = s.profiles := rfl
@[simp] theorem State.setChan_queues : (s.setChan o x).queues = s.queues := rfl
@[simp] theorem State.setChan_cam : (s.setChan o x).cam = s.cam := rfl
@[simp] theorem State.setChan_isets : (s.setChan o x).isets = s.isets := rfl
@[simp] theorem State.setChan_conflict : (s.setChan o x).conflict = s.conflict := rfl
@[simp] theorem State.setChan_conflictPolicy : (s.setChan o x).conflictPolicy = s.conflictPolicy := rfl
@[simp] theorem State.setChan_faultIns : (s.setChan o x).faultIns = s.faultIns := rfl
@[simp] theorem State.setChan_rail : (s.setChan o x).rail = s.rail := rfl
@[simp] theorem State.setChan_groups : (s.setChan o x).groups = s.groups := rfl
@[simp] theorem State.setChan_link : (s.setChan o x).link = s.link := rfl
@[simp] theorem State.setChan_notices : (s.setChan o x).notices = s.notices := rfl
@[simp] theorem State.setChan_pins : (s.setChan o x).pins = s.pins := rfl
@[simp] theorem State.setChan_choices : (s.setChan o x).choices = s.choices := rfl
@[simp] theorem State.setChan_picks : (s.setChan o x).picks = s.picks := rfl
@[simp] theorem State.setChan_profile (j : Output) : (s.setChan o x).profile j = s.profile j := rfl
theorem State.setChan_chan (j : Output) : (s.setChan o x).chan j = if j = o then x else s.chan j := rd_wr _ _ _ _
@[simp] theorem State.setChan_chan_self : (s.setChan o x).chan o = x := rd_wr_self _ _ _
@[simp] theorem State.setChan_queue (j : Output) : (s.setChan o x).queue j = s.queue j := rfl
@[simp] theorem State.setChan_pass (j : Output) : (s.setChan o x).pass j = s.pass j := rfl
@[simp] theorem State.setChan_iset (j : SetId) : (s.setChan o x).iset j = s.iset j := rfl
@[simp] theorem State.setChan_faultIn (j : InputId) : (s.setChan o x).faultIn j = s.faultIn j := rfl
@[simp] theorem State.setChan_group (j : GroupId) : (s.setChan o x).group j = s.group j := rfl
end setChan

section setQueue
variable (s : State) (o : Output) (x : List Entry)
@[simp] theorem State.setQueue_pending : (s.setQueue o x).pending = s.pending := rfl
@[simp] theorem State.setQueue_now : (s.setQueue o x).now = s.now := rfl
@[simp] theorem State.setQueue_mode : (s.setQueue o x).mode = s.mode := rfl
@[simp] theorem State.setQueue_resetCause : (s.setQueue o x).resetCause = s.resetCause := rfl
@[simp] theorem State.setQueue_tracker : (s.setQueue o x).tracker = s.tracker := rfl
@[simp] theorem State.setQueue_profiles : (s.setQueue o x).profiles = s.profiles := rfl
@[simp] theorem State.setQueue_channels : (s.setQueue o x).channels = s.channels := rfl
@[simp] theorem State.setQueue_cam : (s.setQueue o x).cam = s.cam := rfl
@[simp] theorem State.setQueue_isets : (s.setQueue o x).isets = s.isets := rfl
@[simp] theorem State.setQueue_conflict : (s.setQueue o x).conflict = s.conflict := rfl
@[simp] theorem State.setQueue_conflictPolicy : (s.setQueue o x).conflictPolicy = s.conflictPolicy := rfl
@[simp] theorem State.setQueue_faultIns : (s.setQueue o x).faultIns = s.faultIns := rfl
@[simp] theorem State.setQueue_rail : (s.setQueue o x).rail = s.rail := rfl
@[simp] theorem State.setQueue_groups : (s.setQueue o x).groups = s.groups := rfl
@[simp] theorem State.setQueue_link : (s.setQueue o x).link = s.link := rfl
@[simp] theorem State.setQueue_notices : (s.setQueue o x).notices = s.notices := rfl
@[simp] theorem State.setQueue_pins : (s.setQueue o x).pins = s.pins := rfl
@[simp] theorem State.setQueue_choices : (s.setQueue o x).choices = s.choices := rfl
@[simp] theorem State.setQueue_picks : (s.setQueue o x).picks = s.picks := rfl
@[simp] theorem State.setQueue_profile (j : Output) : (s.setQueue o x).profile j = s.profile j := rfl
@[simp] theorem State.setQueue_chan (j : Output) : (s.setQueue o x).chan j = s.chan j := rfl
theorem State.setQueue_queue (j : Output) : (s.setQueue o x).queue j = if j = o then x else s.queue j := rd_wr _ _ _ _
@[simp] theorem State.setQueue_queue_self : (s.setQueue o x).queue o = x := rd_wr_self _ _ _
@[simp] theorem State.setQueue_pass (j : Output) : (s.setQueue o x).pass j = s.pass j := rfl
@[simp] theorem State.setQueue_iset (j : SetId) : (s.setQueue o x).iset j = s.iset j := rfl
@[simp] theorem State.setQueue_faultIn (j : InputId) : (s.setQueue o x).faultIn j = s.faultIn j := rfl
@[simp] theorem State.setQueue_group (j : GroupId) : (s.setQueue o x).group j = s.group j := rfl
end setQueue

section setPass
variable (s : State) (o : Output) (x : Option Pass)
@[simp] theorem State.setPass_pending : (s.setPass o x).pending = s.pending := rfl
@[simp] theorem State.setPass_now : (s.setPass o x).now = s.now := rfl
@[simp] theorem State.setPass_mode : (s.setPass o x).mode = s.mode := rfl
@[simp] theorem State.setPass_resetCause : (s.setPass o x).resetCause = s.resetCause := rfl
@[simp] theorem State.setPass_tracker : (s.setPass o x).tracker = s.tracker := rfl
@[simp] theorem State.setPass_profiles : (s.setPass o x).profiles = s.profiles := rfl
@[simp] theorem State.setPass_channels : (s.setPass o x).channels = s.channels := rfl
@[simp] theorem State.setPass_queues : (s.setPass o x).queues = s.queues := rfl
@[simp] theorem State.setPass_isets : (s.setPass o x).isets = s.isets := rfl
@[simp] theorem State.setPass_conflict : (s.setPass o x).conflict = s.conflict := rfl
@[simp] theorem State.setPass_conflictPolicy : (s.setPass o x).conflictPolicy = s.conflictPolicy := rfl
@[simp] theorem State.setPass_faultIns : (s.setPass o x).faultIns = s.faultIns := rfl
@[simp] theorem State.setPass_rail : (s.setPass o x).rail = s.rail := rfl
@[simp] theorem State.setPass_groups : (s.setPass o x).groups = s.groups := rfl
@[simp] theorem State.setPass_link : (s.setPass o x).link = s.link := rfl
@[simp] theorem State.setPass_notices : (s.setPass o x).notices = s.notices := rfl
@[simp] theorem State.setPass_pins : (s.setPass o x).pins = s.pins := rfl
@[simp] theorem State.setPass_choices : (s.setPass o x).choices = s.choices := rfl
@[simp] theorem State.setPass_picks : (s.setPass o x).picks = s.picks := rfl
@[simp] theorem State.setPass_cam_active : (s.setPass o x).cam.active = s.cam.active := rfl
@[simp] theorem State.setPass_cam_shadow : (s.setPass o x).cam.shadow = s.cam.shadow := rfl
@[simp] theorem State.setPass_cam_commitPending : (s.setPass o x).cam.commitPending = s.cam.commitPending := rfl
@[simp] theorem State.setPass_profile (j : Output) : (s.setPass o x).profile j = s.profile j := rfl
@[simp] theorem State.setPass_chan (j : Output) : (s.setPass o x).chan j = s.chan j := rfl
@[simp] theorem State.setPass_queue (j : Output) : (s.setPass o x).queue j = s.queue j := rfl
theorem State.setPass_pass (j : Output) : (s.setPass o x).pass j = if j = o then x else s.pass j := rd_wr _ _ _ _
@[simp] theorem State.setPass_pass_self : (s.setPass o x).pass o = x := rd_wr_self _ _ _
@[simp] theorem State.setPass_iset (j : SetId) : (s.setPass o x).iset j = s.iset j := rfl
@[simp] theorem State.setPass_faultIn (j : InputId) : (s.setPass o x).faultIn j = s.faultIn j := rfl
@[simp] theorem State.setPass_group (j : GroupId) : (s.setPass o x).group j = s.group j := rfl
end setPass

section setIset
variable (s : State) (i : SetId) (x : ISet)
@[simp] theorem State.setIset_pending : (s.setIset i x).pending = s.pending := rfl
@[simp] theorem State.setIset_now : (s.setIset i x).now = s.now := rfl
@[simp] theorem State.setIset_mode : (s.setIset i x).mode = s.mode := rfl
@[simp] theorem State.setIset_resetCause : (s.setIset i x).resetCause = s.resetCause := rfl
@[simp] theorem State.setIset_tracker : (s.setIset i x).tracker = s.tracker := rfl
@[simp] theorem State.setIset_profiles : (s.setIset i x).profiles = s.profiles := rfl
@[simp] theorem State.setIset_channels : (s.setIset i x).channels = s.channels := rfl
@[simp] theorem State.setIset_queues : (s.setIset i x).queues = s.queues := rfl
@[simp] theorem State.setIset_cam : (s.setIset i x).cam = s.cam := rfl
@[simp] theorem State.setIset_conflict : (s.setIset i x).conflict = s.conflict := rfl
@[simp] theorem State.setIset_conflictPolicy : (s.setIset i x).conflictPolicy = s.conflictPolicy := rfl
@[simp] theorem State.setIset_faultIns : (s.setIset i x).faultIns = s.faultIns := rfl
@[simp] theorem State.setIset_rail : (s.setIset i x).rail = s.rail := rfl
@[simp] theorem State.setIset_groups : (s.setIset i x).groups = s.groups := rfl
@[simp] theorem State.setIset_link : (s.setIset i x).link = s.link := rfl
@[simp] theorem State.setIset_notices : (s.setIset i x).notices = s.notices := rfl
@[simp] theorem State.setIset_pins : (s.setIset i x).pins = s.pins := rfl
@[simp] theorem State.setIset_choices : (s.setIset i x).choices = s.choices := rfl
@[simp] theorem State.setIset_picks : (s.setIset i x).picks = s.picks := rfl
@[simp] theorem State.setIset_profile (j : Output) : (s.setIset i x).profile j = s.profile j := rfl
@[simp] theorem State.setIset_chan (j : Output) : (s.setIset i x).chan j = s.chan j := rfl
@[simp] theorem State.setIset_queue (j : Output) : (s.setIset i x).queue j = s.queue j := rfl
@[simp] theorem State.setIset_pass (j : Output) : (s.setIset i x).pass j = s.pass j := rfl
theorem State.setIset_iset (j : SetId) : (s.setIset i x).iset j = if j = i then x else s.iset j := rd_wr _ _ _ _
@[simp] theorem State.setIset_iset_self : (s.setIset i x).iset i = x := rd_wr_self _ _ _
@[simp] theorem State.setIset_faultIn (j : InputId) : (s.setIset i x).faultIn j = s.faultIn j := rfl
@[simp] theorem State.setIset_group (j : GroupId) : (s.setIset i x).group j = s.group j := rfl
end setIset

section setFaultIn
variable (s : State) (i : InputId) (x : FaultIn)
@[simp] theorem State.setFaultIn_pending : (s.setFaultIn i x).pending = s.pending := rfl
@[simp] theorem State.setFaultIn_now : (s.setFaultIn i x).now = s.now := rfl
@[simp] theorem State.setFaultIn_mode : (s.setFaultIn i x).mode = s.mode := rfl
@[simp] theorem State.setFaultIn_resetCause : (s.setFaultIn i x).resetCause = s.resetCause := rfl
@[simp] theorem State.setFaultIn_tracker : (s.setFaultIn i x).tracker = s.tracker := rfl
@[simp] theorem State.setFaultIn_profiles : (s.setFaultIn i x).profiles = s.profiles := rfl
@[simp] theorem State.setFaultIn_channels : (s.setFaultIn i x).channels = s.channels := rfl
@[simp] theorem State.setFaultIn_queues : (s.setFaultIn i x).queues = s.queues := rfl
@[simp] theorem State.setFaultIn_cam : (s.setFaultIn i x).cam = s.cam := rfl
@[simp] theorem State.setFaultIn_isets : (s.setFaultIn i x).isets = s.isets := rfl
@[simp] theorem State.setFaultIn_conflict : (s.setFaultIn i x).conflict = s.conflict := rfl
@[simp] theorem State.setFaultIn_conflictPolicy : (s.setFaultIn i x).conflictPolicy = s.conflictPolicy := rfl
@[simp] theorem State.setFaultIn_rail : (s.setFaultIn i x).rail = s.rail := rfl
@[simp] theorem State.setFaultIn_groups : (s.setFaultIn i x).groups = s.groups := rfl
@[simp] theorem State.setFaultIn_link : (s.setFaultIn i x).link = s.link := rfl
@[simp] theorem State.setFaultIn_notices : (s.setFaultIn i x).notices = s.notices := rfl
@[simp] theorem State.setFaultIn_pins : (s.setFaultIn i x).pins = s.pins := rfl
@[simp] theorem State.setFaultIn_choices : (s.setFaultIn i x).choices = s.choices := rfl
@[simp] theorem State.setFaultIn_picks : (s.setFaultIn i x).picks = s.picks := rfl
@[simp] theorem State.setFaultIn_profile (j : Output) : (s.setFaultIn i x).profile j = s.profile j := rfl
@[simp] theorem State.setFaultIn_chan (j : Output) : (s.setFaultIn i x).chan j = s.chan j := rfl
@[simp] theorem State.setFaultIn_queue (j : Output) : (s.setFaultIn i x).queue j = s.queue j := rfl
@[simp] theorem State.setFaultIn_pass (j : Output) : (s.setFaultIn i x).pass j = s.pass j := rfl
@[simp] theorem State.setFaultIn_iset (j : SetId) : (s.setFaultIn i x).iset j = s.iset j := rfl
theorem State.setFaultIn_faultIn (j : InputId) : (s.setFaultIn i x).faultIn j = if j = i then x else s.faultIn j := rd_wr _ _ _ _
@[simp] theorem State.setFaultIn_faultIn_self : (s.setFaultIn i x).faultIn i = x := rd_wr_self _ _ _
@[simp] theorem State.setFaultIn_group (j : GroupId) : (s.setFaultIn i x).group j = s.group j := rfl
end setFaultIn

section setGroup
variable (s : State) (g : GroupId) (x : TripGroup)
@[simp] theorem State.setGroup_pending : (s.setGroup g x).pending = s.pending := rfl
@[simp] theorem State.setGroup_now : (s.setGroup g x).now = s.now := rfl
@[simp] theorem State.setGroup_mode : (s.setGroup g x).mode = s.mode := rfl
@[simp] theorem State.setGroup_resetCause : (s.setGroup g x).resetCause = s.resetCause := rfl
@[simp] theorem State.setGroup_tracker : (s.setGroup g x).tracker = s.tracker := rfl
@[simp] theorem State.setGroup_profiles : (s.setGroup g x).profiles = s.profiles := rfl
@[simp] theorem State.setGroup_channels : (s.setGroup g x).channels = s.channels := rfl
@[simp] theorem State.setGroup_queues : (s.setGroup g x).queues = s.queues := rfl
@[simp] theorem State.setGroup_cam : (s.setGroup g x).cam = s.cam := rfl
@[simp] theorem State.setGroup_isets : (s.setGroup g x).isets = s.isets := rfl
@[simp] theorem State.setGroup_conflict : (s.setGroup g x).conflict = s.conflict := rfl
@[simp] theorem State.setGroup_conflictPolicy : (s.setGroup g x).conflictPolicy = s.conflictPolicy := rfl
@[simp] theorem State.setGroup_faultIns : (s.setGroup g x).faultIns = s.faultIns := rfl
@[simp] theorem State.setGroup_rail : (s.setGroup g x).rail = s.rail := rfl
@[simp] theorem State.setGroup_link : (s.setGroup g x).link = s.link := rfl
@[simp] theorem State.setGroup_notices : (s.setGroup g x).notices = s.notices := rfl
@[simp] theorem State.setGroup_pins : (s.setGroup g x).pins = s.pins := rfl
@[simp] theorem State.setGroup_choices : (s.setGroup g x).choices = s.choices := rfl
@[simp] theorem State.setGroup_picks : (s.setGroup g x).picks = s.picks := rfl
@[simp] theorem State.setGroup_profile (j : Output) : (s.setGroup g x).profile j = s.profile j := rfl
@[simp] theorem State.setGroup_chan (j : Output) : (s.setGroup g x).chan j = s.chan j := rfl
@[simp] theorem State.setGroup_queue (j : Output) : (s.setGroup g x).queue j = s.queue j := rfl
@[simp] theorem State.setGroup_pass (j : Output) : (s.setGroup g x).pass j = s.pass j := rfl
@[simp] theorem State.setGroup_iset (j : SetId) : (s.setGroup g x).iset j = s.iset j := rfl
@[simp] theorem State.setGroup_faultIn (j : InputId) : (s.setGroup g x).faultIn j = s.faultIn j := rfl
theorem State.setGroup_group (j : GroupId) : (s.setGroup g x).group j = if j = g then x else s.group j := rd_wr _ _ _ _
@[simp] theorem State.setGroup_group_self : (s.setGroup g x).group g = x := rd_wr_self _ _ _
end setGroup

section setTracker
variable (s : State) (x : Tracker)
@[simp] theorem State.setTracker_pending : (s.setTracker x).pending = s.pending := rfl
@[simp] theorem State.setTracker_now : (s.setTracker x).now = s.now := rfl
@[simp] theorem State.setTracker_mode : (s.setTracker x).mode = s.mode := rfl
@[simp] theorem State.setTracker_resetCause : (s.setTracker x).resetCause = s.resetCause := rfl
@[simp] theorem State.setTracker_profiles : (s.setTracker x).profiles = s.profiles := rfl
@[simp] theorem State.setTracker_channels : (s.setTracker x).channels = s.channels := rfl
@[simp] theorem State.setTracker_queues : (s.setTracker x).queues = s.queues := rfl
@[simp] theorem State.setTracker_cam : (s.setTracker x).cam = s.cam := rfl
@[simp] theorem State.setTracker_isets : (s.setTracker x).isets = s.isets := rfl
@[simp] theorem State.setTracker_conflict : (s.setTracker x).conflict = s.conflict := rfl
@[simp] theorem State.setTracker_conflictPolicy : (s.setTracker x).conflictPolicy = s.conflictPolicy := rfl
@[simp] theorem State.setTracker_faultIns : (s.setTracker x).faultIns = s.faultIns := rfl
@[simp] theorem State.setTracker_rail : (s.setTracker x).rail = s.rail := rfl
@[simp] theorem State.setTracker_groups : (s.setTracker x).groups = s.groups := rfl
@[simp] theorem State.setTracker_link : (s.setTracker x).link = s.link := rfl
@[simp] theorem State.setTracker_notices : (s.setTracker x).notices = s.notices := rfl
@[simp] theorem State.setTracker_pins : (s.setTracker x).pins = s.pins := rfl
@[simp] theorem State.setTracker_choices : (s.setTracker x).choices = s.choices := rfl
@[simp] theorem State.setTracker_picks : (s.setTracker x).picks = s.picks := rfl
@[simp] theorem State.setTracker_tracker : (s.setTracker x).tracker = x := rfl
@[simp] theorem State.setTracker_profile (j : Output) : (s.setTracker x).profile j = s.profile j := rfl
@[simp] theorem State.setTracker_chan (j : Output) : (s.setTracker x).chan j = s.chan j := rfl
@[simp] theorem State.setTracker_queue (j : Output) : (s.setTracker x).queue j = s.queue j := rfl
@[simp] theorem State.setTracker_pass (j : Output) : (s.setTracker x).pass j = s.pass j := rfl
@[simp] theorem State.setTracker_iset (j : SetId) : (s.setTracker x).iset j = s.iset j := rfl
@[simp] theorem State.setTracker_faultIn (j : InputId) : (s.setTracker x).faultIn j = s.faultIn j := rfl
@[simp] theorem State.setTracker_group (j : GroupId) : (s.setTracker x).group j = s.group j := rfl
end setTracker

section setShadow
variable (s : State) (x : CamTable)
@[simp] theorem State.setShadow_pending : (s.setShadow x).pending = s.pending := rfl
@[simp] theorem State.setShadow_now : (s.setShadow x).now = s.now := rfl
@[simp] theorem State.setShadow_mode : (s.setShadow x).mode = s.mode := rfl
@[simp] theorem State.setShadow_resetCause : (s.setShadow x).resetCause = s.resetCause := rfl
@[simp] theorem State.setShadow_tracker : (s.setShadow x).tracker = s.tracker := rfl
@[simp] theorem State.setShadow_profiles : (s.setShadow x).profiles = s.profiles := rfl
@[simp] theorem State.setShadow_channels : (s.setShadow x).channels = s.channels := rfl
@[simp] theorem State.setShadow_queues : (s.setShadow x).queues = s.queues := rfl
@[simp] theorem State.setShadow_isets : (s.setShadow x).isets = s.isets := rfl
@[simp] theorem State.setShadow_conflict : (s.setShadow x).conflict = s.conflict := rfl
@[simp] theorem State.setShadow_conflictPolicy : (s.setShadow x).conflictPolicy = s.conflictPolicy := rfl
@[simp] theorem State.setShadow_faultIns : (s.setShadow x).faultIns = s.faultIns := rfl
@[simp] theorem State.setShadow_rail : (s.setShadow x).rail = s.rail := rfl
@[simp] theorem State.setShadow_groups : (s.setShadow x).groups = s.groups := rfl
@[simp] theorem State.setShadow_link : (s.setShadow x).link = s.link := rfl
@[simp] theorem State.setShadow_notices : (s.setShadow x).notices = s.notices := rfl
@[simp] theorem State.setShadow_pins : (s.setShadow x).pins = s.pins := rfl
@[simp] theorem State.setShadow_choices : (s.setShadow x).choices = s.choices := rfl
@[simp] theorem State.setShadow_picks : (s.setShadow x).picks = s.picks := rfl
@[simp] theorem State.setShadow_cam_active : (s.setShadow x).cam.active = s.cam.active := rfl
@[simp] theorem State.setShadow_cam_commitPending : (s.setShadow x).cam.commitPending = s.cam.commitPending := rfl
@[simp] theorem State.setShadow_cam_passes : (s.setShadow x).cam.passes = s.cam.passes := rfl
@[simp] theorem State.setShadow_shadow : (s.setShadow x).cam.shadow = x := rfl
@[simp] theorem State.setShadow_profile (j : Output) : (s.setShadow x).profile j = s.profile j := rfl
@[simp] theorem State.setShadow_chan (j : Output) : (s.setShadow x).chan j = s.chan j := rfl
@[simp] theorem State.setShadow_queue (j : Output) : (s.setShadow x).queue j = s.queue j := rfl
@[simp] theorem State.setShadow_pass (j : Output) : (s.setShadow x).pass j = s.pass j := rfl
@[simp] theorem State.setShadow_iset (j : SetId) : (s.setShadow x).iset j = s.iset j := rfl
@[simp] theorem State.setShadow_faultIn (j : InputId) : (s.setShadow x).faultIn j = s.faultIn j := rfl
@[simp] theorem State.setShadow_group (j : GroupId) : (s.setShadow x).group j = s.group j := rfl
end setShadow

/-! ## Writes after writes: the second of two at one place counts, a value written back changes nothing, and writes of
different fields commute -/

@[simp] theorem State.setProfile_setProfile (s : State) (o : Output) (x y : Profile) : (s.setProfile o x).setProfile o y = s.setProfile o y := by
  simp [State.setProfile, wr_wr]
@[simp] theorem State.setProfile_back (s : State) (o : Output) : s.setProfile o (s.profile o) = s := by
  simp [State.setProfile, State.profile, wr_rd]
@[simp] theorem State.setQueue_setQueue (s : State) (o : Output) (x y : List Entry) : (s.setQueue o x).setQueue o y = s.setQueue o y := by
  simp [State.setQueue, wr_wr]
@[simp] theorem State.setQueue_back (s : State) (o : Output) : s.setQueue o (s.queue o) = s := by
  simp [State.setQueue, State.queue, wr_rd]
@[simp] theorem State.setPass_setPass (s : State) (o : Output) (x y : Option Pass) : (s.setPass o x).setPass o y = s.setPass o y := by
  simp [State.setPass, wr_wr]
@[simp] theorem State.setPass_back (s : State) (o : Output) : s.setPass o (s.pass o) = s := by
  simp [State.setPass, State.pass, wr_rd]
@[simp] theorem State.setIset_setIset (s : State) (i : SetId) (x y : ISet) : (s.setIset i x).setIset i y = s.setIset i y := by
  simp [State.setIset, wr_wr]
@[simp] theorem State.setIset_back (s : State) (i : SetId) : s.setIset i (s.iset i) = s := by
  simp [State.setIset, State.iset, wr_rd]
@[simp] theorem State.setFaultIn_setFaultIn (s : State) (i : InputId) (x y : FaultIn) : (s.setFaultIn i x).setFaultIn i y = s.setFaultIn i y := by
  simp [State.setFaultIn, wr_wr]
@[simp] theorem State.setFaultIn_back (s : State) (i : InputId) : s.setFaultIn i (s.faultIn i) = s := by
  simp [State.setFaultIn, State.faultIn, wr_rd]
@[simp] theorem State.setGroup_setGroup (s : State) (g : GroupId) (x y : TripGroup) : (s.setGroup g x).setGroup g y = s.setGroup g y := by
  simp [State.setGroup, wr_wr]
@[simp] theorem State.setGroup_back (s : State) (g : GroupId) : s.setGroup g (s.group g) = s := by
  simp [State.setGroup, State.group, wr_rd]
@[simp] theorem State.setChan_setChan (s : State) (o : Output) (x y : Channel) : (s.setChan o x).setChan o y = s.setChan o y := by
  simp [State.setChan, wr_wr]
@[simp] theorem State.setChan_back (s : State) (o : Output) : s.setChan o (s.chan o) = s := by
  simp [State.setChan, State.chan, wr_rd]

theorem State.setQueue_setProfile (s : State) (j : Output) (y : List Entry) (i : Output) (x : Profile) :
    (s.setQueue j y).setProfile i x = (s.setProfile i x).setQueue j y := rfl
theorem State.setPass_setProfile (s : State) (j : Output) (y : Option Pass) (i : Output) (x : Profile) :
    (s.setPass j y).setProfile i x = (s.setProfile i x).setPass j y := rfl
theorem State.setIset_setProfile (s : State) (j : SetId) (y : ISet) (i : Output) (x : Profile) :
    (s.setIset j y).setProfile i x = (s.setProfile i x).setIset j y := rfl
theorem State.setFaultIn_setProfile (s : State) (j : InputId) (y : FaultIn) (i : Output) (x : Profile) :
    (s.setFaultIn j y).setProfile i x = (s.setProfile i x).setFaultIn j y := rfl
theorem State.setGroup_setProfile (s : State) (j : GroupId) (y : TripGroup) (i : Output) (x : Profile) :
    (s.setGroup j y).setProfile i x = (s.setProfile i x).setGroup j y := rfl
theorem State.setChan_setProfile (s : State) (j : Output) (y : Channel) (i : Output) (x : Profile) :
    (s.setChan j y).setProfile i x = (s.setProfile i x).setChan j y := rfl
theorem State.setPass_setQueue (s : State) (j : Output) (y : Option Pass) (i : Output) (x : List Entry) :
    (s.setPass j y).setQueue i x = (s.setQueue i x).setPass j y := rfl
theorem State.setIset_setQueue (s : State) (j : SetId) (y : ISet) (i : Output) (x : List Entry) :
    (s.setIset j y).setQueue i x = (s.setQueue i x).setIset j y := rfl
theorem State.setFaultIn_setQueue (s : State) (j : InputId) (y : FaultIn) (i : Output) (x : List Entry) :
    (s.setFaultIn j y).setQueue i x = (s.setQueue i x).setFaultIn j y := rfl
theorem State.setGroup_setQueue (s : State) (j : GroupId) (y : TripGroup) (i : Output) (x : List Entry) :
    (s.setGroup j y).setQueue i x = (s.setQueue i x).setGroup j y := rfl
theorem State.setChan_setQueue (s : State) (j : Output) (y : Channel) (i : Output) (x : List Entry) :
    (s.setChan j y).setQueue i x = (s.setQueue i x).setChan j y := rfl
theorem State.setIset_setPass (s : State) (j : SetId) (y : ISet) (i : Output) (x : Option Pass) :
    (s.setIset j y).setPass i x = (s.setPass i x).setIset j y := rfl
theorem State.setFaultIn_setPass (s : State) (j : InputId) (y : FaultIn) (i : Output) (x : Option Pass) :
    (s.setFaultIn j y).setPass i x = (s.setPass i x).setFaultIn j y := rfl
theorem State.setGroup_setPass (s : State) (j : GroupId) (y : TripGroup) (i : Output) (x : Option Pass) :
    (s.setGroup j y).setPass i x = (s.setPass i x).setGroup j y := rfl
theorem State.setChan_setPass (s : State) (j : Output) (y : Channel) (i : Output) (x : Option Pass) :
    (s.setChan j y).setPass i x = (s.setPass i x).setChan j y := rfl
theorem State.setFaultIn_setIset (s : State) (j : InputId) (y : FaultIn) (i : SetId) (x : ISet) :
    (s.setFaultIn j y).setIset i x = (s.setIset i x).setFaultIn j y := rfl
theorem State.setGroup_setIset (s : State) (j : GroupId) (y : TripGroup) (i : SetId) (x : ISet) :
    (s.setGroup j y).setIset i x = (s.setIset i x).setGroup j y := rfl
theorem State.setChan_setIset (s : State) (j : Output) (y : Channel) (i : SetId) (x : ISet) :
    (s.setChan j y).setIset i x = (s.setIset i x).setChan j y := rfl
theorem State.setGroup_setFaultIn (s : State) (j : GroupId) (y : TripGroup) (i : InputId) (x : FaultIn) :
    (s.setGroup j y).setFaultIn i x = (s.setFaultIn i x).setGroup j y := rfl
theorem State.setChan_setFaultIn (s : State) (j : Output) (y : Channel) (i : InputId) (x : FaultIn) :
    (s.setChan j y).setFaultIn i x = (s.setFaultIn i x).setChan j y := rfl
theorem State.setChan_setGroup (s : State) (j : Output) (y : Channel) (i : GroupId) (x : TripGroup) :
    (s.setChan j y).setGroup i x = (s.setGroup i x).setChan j y := rfl

end Sys2Proof.Machine
end

