-- ==== Sys2Proof/Laws/Moves.lean ====
section
/-! SUPPORT. All that a command can do, said once: a list of small moves of the state. Whatever every move keeps, every
command keeps (`exec_moves`). The inner moves are those of the shared operations; they leave the clock, the mode, the
profiles, the tracker's record, the inputs' filters, the rail monitor, the conflict policy, the pins, the inbox and the
framer alone. The own moves are those of the owners of orders and events; they leave the clock, the inbox and the framer
alone. -/

namespace Sys2Proof.Machine

/-- One small move inside a command. -/
inductive Inner (s : State) : State → Prop
  | chan (o : Output) (c : Channel) : Inner s (s.setChan o c)
  /-- A queue is rewritten without growing, and no entry behind its head comes to be served. -/
  | shrink (o : Output) (q : List Entry) (h : q.length ≤ (s.queue o).length)
      (head : tailUnserved (s.queue o) → tailUnserved q) : Inner s (s.setQueue o q)
  /-- A queue gains one entry outside IDLE on a SHOT output, where the pool and the queue have room; a served head
  stays the head. -/
  | grow (o : Output) (q : List Entry) (h : q.length = (s.queue o).length + 1) (pool : s.poolUse < Config.poolEntries)
      (room : (s.queue o).length < Config.queueEntries)
      (head : tailUnserved (s.queue o) → tailUnserved q)
      (mode : s.mode ≠ .idle) (source : (s.profile o).source = .shot) : Inner s (s.setQueue o q)
  | cam (c : CamUnit) : Inner s { s with cam := c }
  | iset (i : SetId) (x : ISet) : Inner s (s.setIset i x)
  | group (g : GroupId) (x : TripGroup) : Inner s (s.setGroup g x)
  | conflict (r : Option ConflictRecord) : Inner s { s with conflict := r }
  | choice (cs : List Nat) (n : Nat) : Inner s { s with choices := cs, picks := n }
  | post (b : NoticeBody) : Inner s (s.post b)
  | reply (r : Reply) : Inner s (s.placeReply r)
  | cached (f : OrderFrame) (b : ReplyBody) : Inner s (s.cacheOrder f b)
  /-- The decoder's halt, which only a reset ends, and the link timer's fields. -/
  | timed (halted : Bool) (timeout : Nat) (timer : Option Time) (active : Bool)
      (h : s.link.halted = true → halted = true) :
      Inner s { s with link := { s.link with
        halted := halted, timeout := timeout, timer := timer, linkActive := active } }

/-- One small move of the owner of an order or an event. -/
inductive Own (s : State) : State → Prop
  | inner (t : State) (h : Inner s t) : Own s t
  | profile (o : Output) (p : Profile) : Own s (s.setProfile o p)
  | faultIn (i : InputId) (f : FaultIn) : Own s (s.setFaultIn i f)
  | tracker (t : Tracker) : Own s (s.setTracker t)
  | mode (m : Mode) : Own s { s with mode := m }
  | policy (p : ConflictPolicy) : Own s { s with conflictPolicy := p }
  | rail (m : RailMonitor) : Own s { s with rail := m }
  | faultPins (v : Vector Level 4) : Own s { s with pins := { s.pins with faults := v } }
  | railPin (v : Int) : Own s { s with pins := { s.pins with rail := v } }

/-- One small move of the state. Every command is a sequence of these. -/
inductive Move (s : State) : State → Prop
  | own (t : State) (h : Own s t) : Move s t
  | left (f : OrderFrame) : Move s (s.leaveInbox f)
  | admitted (f : OrderFrame) (h : s.link.inbox.length < Config.inboxFrames) :
      Move s { s with link := { s.link with inbox := s.link.inbox ++ [f] } }
  | framer (candidate : List Byte) (gapTimer : Option Time) :
      Move s { s with link := { s.link with candidate := candidate, gapTimer := gapTimer } }
  /-- The pins of the supply and of nRST. -/
  | pins (p : Pins) : Move s { s with pins := p }
  /-- A frame has gone, and the arbiter has chosen again. -/
  | sent (baud : Baud) (candidate : List Byte) (gapTimer : Option Time) :
      Move s (State.pump { s with link := { s.link with
        tx := none, baud := baud, candidate := candidate, gapTimer := gapTimer } })
  | held : Move s s.holdReset
  | ended (cause : ResetCause) (baud : Baud) : Move s (s.endReset cause baud)

/-- A sequence of inner moves. -/
abbrev Inners : State → State → Prop := Relation.ReflTransGen Inner

/-- A sequence of own moves. -/
abbrev Owns : State → State → Prop := Relation.ReflTransGen Own

/-- A sequence of moves. -/
abbrev Moves : State → State → Prop := Relation.ReflTransGen Move

theorem Inners.trans {s t u : State} (a : Inners s t) (b : Inners t u) : Inners s u :=
  Relation.ReflTransGen.trans a b

theorem Inners.one {s t : State} (h : Inner s t) : Inners s t := Relation.ReflTransGen.single h

theorem Owns.trans {s t u : State} (a : Owns s t) (b : Owns t u) : Owns s u := Relation.ReflTransGen.trans a b

theorem Owns.one {s t : State} (h : Own s t) : Owns s t := Relation.ReflTransGen.single h

theorem Moves.trans {s t u : State} (a : Moves s t) (b : Moves t u) : Moves s u := Relation.ReflTransGen.trans a b

theorem Moves.one {s t : State} (h : Move s t) : Moves s t := Relation.ReflTransGen.single h

theorem Inners.owns {s t : State} (h : Inners s t) : Owns s t := by
  induction h with
  | refl => exact .refl
  | tail _ m ih => exact ih.trans (.one (.inner _ m))

theorem Owns.moves {s t : State} (h : Owns s t) : Moves s t := by
  induction h with
  | refl => exact .refl
  | tail _ m ih => exact ih.trans (.one (.own _ m))

theorem Inners.moves {s t : State} (h : Inners s t) : Moves s t := h.owns.moves

/-- What every inner move keeps, a sequence of them keeps. -/
theorem Inners.keeps {P : State → Prop} (step : ∀ s t, Inner s t → P s → P t) {s t : State} (h : Inners s t)
    (p : P s) : P t := by
  induction h with
  | refl => exact p
  | tail _ m ih => exact step _ _ m ih

/-- What every own move keeps, a sequence of them keeps. -/
theorem Owns.keeps {P : State → Prop} (step : ∀ s t, Own s t → P s → P t) {s t : State} (h : Owns s t) (p : P s) :
    P t := by
  induction h with
  | refl => exact p
  | tail _ m ih => exact step _ _ m ih

/-- What every move keeps, a sequence of moves keeps. -/
theorem Moves.keeps {P : State → Prop} (step : ∀ s t, Move s t → P s → P t) {s t : State} (h : Moves s t) (p : P s) :
    P t := by
  induction h with
  | refl => exact p
  | tail _ m ih => exact step _ _ m ih

theorem foldl_inners {α : Type} (f : State → α → State) (h : ∀ s a, Inners s (f s a)) (l : List α) (s : State) :
    Inners s (l.foldl f s) := by
  induction l generalizing s with
  | nil => exact .refl
  | cons a l ih => exact (h s a).trans (ih _)

/-! ## Writes -/

theorem setProfile_owns (s : State) (o : Output) (p : Profile) : Owns s (s.setProfile o p) := .one (.profile o p)
theorem setChan_inners (s : State) (o : Output) (c : Channel) : Inners s (s.setChan o c) := .one (.chan o c)
theorem setIset_inners (s : State) (i : SetId) (x : ISet) : Inners s (s.setIset i x) := .one (.iset i x)
theorem setFaultIn_owns (s : State) (i : InputId) (f : FaultIn) : Owns s (s.setFaultIn i f) := .one (.faultIn i f)
theorem setGroup_inners (s : State) (g : GroupId) (x : TripGroup) : Inners s (s.setGroup g x) := .one (.group g x)
theorem setTracker_owns (s : State) (t : Tracker) : Owns s (s.setTracker t) := .one (.tracker t)
theorem setPass_inners (s : State) (o : Output) (p : Option Pass) : Inners s (s.setPass o p) := .one (.cam _)
theorem setShadow_inners (s : State) (t : CamTable) : Inners s (s.setShadow t) := .one (.cam _)
theorem post_inners (s : State) (b : NoticeBody) : Inners s (s.post b) := .one (.post b)
theorem placeReply_inners (s : State) (r : Reply) : Inners s (s.placeReply r) := .one (.reply r)
/-! ## Queues of which only the head may be served -/

/-- A new head leaves the rest as it was. -/
theorem tailUnserved_head {q rest : List Entry} {e : Entry} (h : q.tail = rest) :
    tailUnserved q → tailUnserved (e :: rest) := by
  intro t x m
  exact t x (h ▸ m)

/-- Without its head, a queue has no served entry. -/
theorem tailUnserved_rest {q rest : List Entry} (h : q.tail = rest) : tailUnserved q → tailUnserved rest := by
  intro t x m
  exact t x (h ▸ List.mem_of_mem_tail m)

/-- A part of a queue, its order kept. -/
theorem tailUnserved_sublist {q r : List Entry} (h : r.Sublist q) : tailUnserved q → tailUnserved r := by
  intro t x m
  exact t x (h.tail.subset m)

theorem shrink_inners (s : State) (o : Output) (q : List Entry) (h : q.length ≤ (s.queue o).length)
    (t : tailUnserved (s.queue o) → tailUnserved q) : Inners s (s.setQueue o q) := .one (.shrink o q h t)

/-- The head is rewritten. -/
theorem head_inners (s : State) (o : Output) (e : Entry) (rest : List Entry) (l : (s.queue o).length = rest.length + 1)
    (t : (s.queue o).tail = rest) : Inners s (s.setQueue o (e :: rest)) :=
  shrink_inners _ _ _ (by simp [l]) (tailUnserved_head t)

/-- The head leaves. -/
theorem rest_inners (s : State) (o : Output) (rest : List Entry) (t : (s.queue o).tail = rest) :
    Inners s (s.setQueue o rest) :=
  shrink_inners _ _ _ (by rw [← t]; simp) (tailUnserved_rest t)

theorem takePick_inners (s : State) : Inners s s.takePick.2 := by
  unfold State.takePick
  split
  · exact .one (.choice _ s.picks)
  · exact .one (.choice s.choices _)

theorem arrangeN_inners {α : Type} (n : Nat) (xs : List α) (s : State) : Inners s (arrangeN n xs s).2 := by
  induction n generalizing xs s with
  | zero => exact .refl
  | succ n ih =>
    match xs with
    | [] => exact .refl
    | [_] => exact .refl
    | _ :: _ :: _ => exact (takePick_inners s).trans (ih _ _)

theorem arrange_inners {α : Type} (xs : List α) (s : State) : Inners s (arrange xs s).2 := arrangeN_inners _ _ _

/-! ## The end of an order -/

theorem answer_moves (s : State) (f : OrderFrame) (b : ReplyBody) (d : Bound) : Moves s (s.answer f b d) :=
  ((placeReply_inners s _).trans (.one (.cached f b))).moves.trans (.one (.left f))

/-- An order: where the decoder takes its frame, its owner's moves, its reply and cache entry, and the frame leaves the
inbox; else nothing. -/
def Ordered (f : OrderFrame) (s t : State) : Prop :=
  if s.takes f then ∃ u, Owns s u ∧ t = u.leaveInbox f else t = s

theorem Ordered.moves {f : OrderFrame} {s t : State} (h : Ordered f s t) : Moves s t := by
  unfold Ordered at h
  split at h
  · obtain ⟨u, m, rfl⟩ := h
    exact m.moves.trans (.one (.left f))
  · rw [h]

/-- The reply and the cache entry of an order. -/
theorem replied_inners (s : State) (f : OrderFrame) (b : ReplyBody) (d : Bound) :
    Inners s ((s.placeReply ⟨f.seq, replyKind f.kind, b, d⟩).cacheOrder f b) :=
  (placeReply_inners s _).trans (.one (.cached f b))

theorem order_ordered {α : Type} (kind : Byte) (decode : List Byte → Except Result α) (owner : α → State → Answer)
    (h : ∀ a s, Owns s (owner a s).state) (seq : Byte) (body : List Byte) (s t : State)
    (e : order kind decode owner seq body s = .next t) : Ordered ⟨seq, kind, body⟩ s t := by
  simp only [order, Host.Outcome.next.injEq] at e
  subst e
  unfold takeOrder Ordered
  split
  · dsimp only
    split
    · exact ⟨_, (replied_inners ..).owns, rfl⟩
    · exact ⟨_, (h _ s).trans (replied_inners ..).owns, rfl⟩
  · rfl

theorem event_inners (f : State → State) (h : ∀ s, Inners s (f s)) (s t : State) (e : event f s = .next t) :
    Inners s t := by
  simp only [event, Host.Outcome.next.injEq] at e
  subst e
  split
  · exact .refl
  · exact h s

theorem event_owns (f : State → State) (h : ∀ s, Owns s (f s)) (s t : State) (e : event f s = .next t) :
    Owns s t := by
  simp only [event, Host.Outcome.next.injEq] at e
  subst e
  split
  · exact .refl
  · exact h s

theorem event_moves (f : State → State) (h : ∀ s, Moves s (f s)) (s t : State) (e : event f s = .next t) :
    Moves s t := by
  simp only [event, Host.Outcome.next.injEq] at e
  subst e
  split
  · exact .refl
  · exact h s

/-! ## Interlock Unit and drive -/

theorem occupy_inners (s : State) (i : SetId) (o : Output) : Inners s (s.occupy i o) := setIset_inners ..
theorem joinGrants_inners (s : State) (i : SetId) (o : Output) : Inners s (s.joinGrants i o) := setIset_inners ..
theorem leaveGrants_inners (s : State) (i : SetId) (o : Output) : Inners s (s.leaveGrants i o) := setIset_inners ..

theorem withdraw_inners (s : State) (o : Output) : Inners s (s.withdraw o) := by
  unfold State.withdraw
  split
  · exact leaveGrants_inners ..
  · exact .refl

theorem captureConflict_inners (s : State) (o : Output) (i : SetId) (g : Origin) :
    Inners s (s.captureConflict o i g) := by
  unfold State.captureConflict
  dsimp only
  split
  · exact (Inners.one (.conflict _)).trans (post_inners _ _)
  · split <;> exact .one (.conflict _)

theorem reportBegun_inners (s : State) (o : Output) (d : Option Origin) : Inners s (s.reportBegun o d) := by
  unfold State.reportBegun
  split
  · split
    · rename_i e
      split
      · exact head_inners _ _ _ _ (by simp [e]) (by simp [e])
      · exact .refl
    · exact .refl
  · exact .refl

theorem beginDrive_inners (s : State) (o : Output) : Inners s (s.beginDrive o) :=
  (setChan_inners ..).trans (reportBegun_inners ..)

theorem grantNext_inners (s : State) (i : SetId) : Inners s (s.grantNext i) := by
  unfold State.grantNext
  split
  · exact .refl
  · exact ((setIset_inners ..).trans (occupy_inners ..)).trans (beginDrive_inners ..)

theorem releasePlace_inners (s : State) (o : Output) : Inners s (s.releasePlace o) := by
  unfold State.releasePlace
  split
  · exact .refl
  · exact (setIset_inners ..).trans (grantNext_inners ..)

theorem riseFromOff_inners (s : State) (o : Output) (g : Origin) : Inners s (s.riseFromOff o g).2 := by
  unfold State.riseFromOff
  dsimp only
  split
  · exact (setChan_inners ..).trans (beginDrive_inners ..)
  · split
    · exact ((setChan_inners ..).trans (occupy_inners ..)).trans (beginDrive_inners ..)
    · split
      · exact ((setChan_inners ..).trans (joinGrants_inners ..)).trans (setChan_inners ..)
      · exact ((setChan_inners ..).trans (captureConflict_inners ..)).trans (setChan_inners ..)

theorem stopDrive_inners (s : State) (o : Output) (f : Channel → Channel) : Inners s (s.stopDrive o f) :=
  (setChan_inners ..).trans (releasePlace_inners ..)

/-- A demand rise in OFF rewrites the queues without shortening or lengthening them. -/
theorem beginDrive_queue_length (s : State) (o p : Output) :
    ((s.beginDrive o).queue p).length = (s.queue p).length := by
  unfold State.beginDrive State.reportBegun
  dsimp only
  split
  · split
    · rename_i e
      split
      · rw [State.setQueue_queue]
        split
        · subst_vars; simp only [State.setChan_queue] at e; simp [e]
        · rfl
      · rfl
    · rfl
  · rfl

/-- A demand rise in OFF rewrites no entry behind a head. -/
theorem beginDrive_queue_tail (s : State) (o p : Output) : ((s.beginDrive o).queue p).tail = (s.queue p).tail := by
  unfold State.beginDrive State.reportBegun
  dsimp only
  split
  · split
    · rename_i e
      split
      · rw [State.setQueue_queue]
        split
        · subst_vars; simp only [State.setChan_queue] at e; simp [e]
        · rfl
      · rfl
    · rfl
  · rfl

/-! ## Shot Scheduler -/

theorem postShotEnd_inners (s : State) (o : Output) (e : Entry) (r : ShotEnd) : Inners s (s.postShotEnd o e r) := by
  unfold State.postShotEnd
  split
  · exact post_inners ..
  · exact .refl

theorem pump_queues (s : State) : s.pump.queues = s.queues := by
  unfold State.pump State.choose
  split
  · rfl
  · split
    · rfl
    · split <;> rfl
    · rfl
    · rfl

theorem post_queues (s : State) (b : NoticeBody) : (s.post b).queues = s.queues := pump_queues _

theorem post_queue (s : State) (b : NoticeBody) (o : Output) : (s.post b).queue o = s.queue o := by
  simp only [State.queue, post_queues]

theorem postShotEnd_queues (s : State) (o : Output) (e : Entry) (r : ShotEnd) :
    (s.postShotEnd o e r).queues = s.queues := by
  unfold State.postShotEnd
  split
  · exact post_queues ..
  · rfl

theorem captureConflict_queues (s : State) (o : Output) (i : SetId) (g : Origin) :
    (s.captureConflict o i g).queues = s.queues := by
  unfold State.captureConflict
  dsimp only
  split
  · exact post_queues ..
  · split <;> rfl

/-- A demand rise in OFF leaves every queue as long as it was. -/
theorem riseFromOff_queue_length (s : State) (o p : Output) (g : Origin) :
    (((s.riseFromOff o g).2).queue p).length = (s.queue p).length := by
  unfold State.riseFromOff
  dsimp only
  split
  · rw [beginDrive_queue_length]; rfl
  · split
    · rw [beginDrive_queue_length]; rfl
    · split
      · rfl
      · simp only [State.queue, State.setChan_queues, captureConflict_queues]

/-- A demand rise in OFF leaves every queue behind its head as it was. -/
theorem riseFromOff_queue_tail (s : State) (o p : Output) (g : Origin) :
    (((s.riseFromOff o g).2).queue p).tail = (s.queue p).tail := by
  unfold State.riseFromOff
  dsimp only
  split
  · rw [beginDrive_queue_tail]; rfl
  · split
    · rw [beginDrive_queue_tail]; rfl
    · split
      · rfl
      · simp only [State.queue, State.setChan_queues, captureConflict_queues]

theorem fireHead_inners (s : State) (o : Output) (e : Entry) (rest : List Entry) (h : s.queue o = e :: rest) :
    Inners s (s.fireHead o e rest).2 := by
  have r := riseFromOff_inners s o (.shot e.tag)
  have l := riseFromOff_queue_length s o o (.shot e.tag)
  have t := riseFromOff_queue_tail s o o (.shot e.tag)
  unfold State.fireHead
  split
  · rename_i q; rw [q] at r l t; exact r.trans (head_inners _ _ _ _ (by simp [l, h]) (by simp [t, h]))
  · rename_i q; rw [q] at r l t; exact r.trans (head_inners _ _ _ _ (by simp [l, h]) (by simp [t, h]))
  · rename_i q
    rw [q] at r l t
    exact (r.trans (rest_inners _ _ _ (by simp [t, h]))).trans (post_inners ..)

theorem lookDrops_inners (s : State) (e : Entry) : Inners s (s.lookDrops e).2 := by
  unfold State.lookDrops
  split
  · exact takePick_inners s
  · exact .refl

/-- The world's pick at a look leaves the queues alone. -/
theorem lookDrops_queue (s : State) (e : Entry) (o : Output) : (s.lookDrops e).2.queue o = s.queue o := by
  unfold State.lookDrops State.firstOfTwo State.takePick
  split
  · split <;> rfl
  · rfl

theorem lookN_inners (n : Nat) (o : Output) (s : State) : Inners s (lookN n o s) := by
  induction n generalizing s with
  | zero => exact .refl
  | succ n ih =>
    unfold lookN
    split
    · split
      · exact .refl
      · rename_i e rest q
        have f := fireHead_inners s o e rest q
        have d := lookDrops_inners s e
        have dq := (lookDrops_queue s e o).trans q
        split
        · split <;> rename_i w <;> rw [w] at d dq
          · exact ((d.trans (rest_inners _ o rest (by simp [dq]))).trans (post_inners ..)).trans (ih _)
          · have g := fireHead_inners _ o e rest dq
            split
            · rename_i v; rw [v] at g; exact (d.trans g).trans (ih _)
            · rename_i v; rw [v] at g; exact d.trans g
        · split
          · split
            · rename_i w; rw [w] at f; exact f.trans (ih _)
            · rename_i w; rw [w] at f; exact f
          · exact .refl
        · exact .refl
    · exact .refl

theorem look_inners (s : State) (o : Output) : Inners s (s.look o) := lookN_inners ..

theorem reportFree_inners (s : State) (o : Output) : Inners s (s.reportFree o) := by
  unfold State.reportFree
  split
  · exact look_inners ..
  · exact .refl

theorem purgeQueues_inners (s : State) (os : List Output) : Inners s (s.purgeQueues os).2 := by
  have : ∀ (os : List Output) (n : Nat) (s : State),
      Inners s (os.foldl (fun r o => ((r.1 + (r.2.purgeQueue o).1), (r.2.purgeQueue o).2)) (n, s)).2 := by
    intro os
    induction os with
    | nil => intro n s; exact .refl
    | cons o os ih => intro n s; exact (shrink_inners s o [] (by simp) (fun _ _ m => nomatch m)).trans (ih _ _)
  exact this os 0 s

/-! ## Channels -/

theorem reportEnded_inners (s : State) (o : Output) (d : Option Origin) : Inners s (s.reportEnded o d) := by
  unfold State.reportEnded
  split
  · split
    · rename_i e
      split
      · exact (rest_inners _ _ _ (by simp [e])).trans (postShotEnd_inners ..)
      · exact .refl
    · exact .refl
  · exact setPass_inners ..
  · exact .refl
  · exact .refl

theorem reportRefused_inners (s : State) (o : Output) (d : Option Origin) : Inners s (s.reportRefused o d) := by
  unfold State.reportRefused
  split
  · split
    · rename_i e
      exact ((rest_inners _ _ _ (by simp [e])).trans (post_inners ..)).trans (reportFree_inners ..)
    · exact .refl
  · split
    · exact (setPass_inners ..).trans (post_inners ..)
    · exact .refl
  · exact (setChan_inners ..).trans (post_inners ..)
  · exact .refl

theorem demandRise_inners (s : State) (o : Output) (g : Origin) : Inners s (s.demandRise o g) := by
  have r := riseFromOff_inners s o g
  unfold State.demandRise
  split
  · split
    · rename_i q; rw [q] at r; exact r.trans (reportRefused_inners ..)
    · rename_i q; rw [q] at r; exact r
  · exact setChan_inners ..
  · exact reportEnded_inners ..
  · exact .refl

theorem demandHandover_inners (s : State) (o : Output) (slot : Slot) : Inners s (s.demandHandover o slot) := by
  unfold State.demandHandover
  dsimp only
  split
  · exact setChan_inners ..
  · split
    · exact setChan_inners ..
    · exact .refl

theorem demandFall_inners (s : State) (o : Output) : Inners s (s.demandFall o).2 := by
  unfold State.demandFall
  dsimp only
  split
  · exact ((withdraw_inners ..).trans (setChan_inners ..)).trans (reportFree_inners ..)
  · split
    · exact (stopDrive_inners ..).trans (reportFree_inners ..)
    · dsimp only; exact stopDrive_inners ..
  · split
    · exact (stopDrive_inners ..).trans (reportFree_inners ..)
    · dsimp only; exact stopDrive_inners ..
  · split
    · exact setChan_inners ..
    · exact (setChan_inners ..).trans (reportFree_inners ..)
  · exact setChan_inners ..
  · exact .refl
  · exact .refl

theorem inhibitOn_inners (s : State) (o : Output) : Inners s (s.inhibitOn o) := by
  unfold State.inhibitOn
  dsimp only
  split
  · exact setChan_inners ..
  · exact (setChan_inners ..).trans (reportEnded_inners ..)
  · exact ((withdraw_inners ..).trans (setChan_inners ..)).trans (reportEnded_inners ..)
  · exact (stopDrive_inners ..).trans (reportEnded_inners ..)
  · exact (stopDrive_inners ..).trans (reportEnded_inners ..)
  · exact (setChan_inners ..).trans (reportEnded_inners ..)
  · exact .refl

theorem inhibitOff_inners (s : State) (o : Output) : Inners s (s.inhibitOff o) := by
  unfold State.inhibitOff
  dsimp only
  split
  · exact setChan_inners ..
  · exact (setChan_inners ..).trans (reportFree_inners ..)

theorem reportInhibit_inners (s : State) (o : Output) : Inners s (s.reportInhibit o) := by
  unfold State.reportInhibit
  split
  · exact inhibitOn_inners ..
  · split
    · exact inhibitOff_inners ..
    · exact .refl

theorem reportAll_inners (s : State) (os : List Output) : Inners s (s.reportAll os) :=
  (arrange_inners _ s).trans (foldl_inners _ reportInhibit_inners _ _)

theorem boostExpiry_inners (s : State) (o : Output) : Inners s (s.boostExpiry o) := by
  unfold State.boostExpiry
  dsimp only
  split
  · exact setChan_inners ..
  · exact .refl

theorem maxOnExpiry_inners (s : State) (o : Output) : Inners s (s.maxOnExpiry o) := by
  unfold State.maxOnExpiry
  dsimp only
  split
  · exact (stopDrive_inners ..).trans (post_inners ..)
  · exact .refl

theorem recoverExpiry_inners (s : State) (o : Output) : Inners s (s.recoverExpiry o) := by
  unfold State.recoverExpiry
  dsimp only
  split
  · split
    · split
      · exact (setChan_inners ..).trans (demandRise_inners ..)
      · exact (setChan_inners ..).trans (reportFree_inners ..)
    · exact setChan_inners ..
  · exact .refl

theorem deferExpiry_inners (s : State) (o : Output) : Inners s (s.deferExpiry o) := by
  unfold State.deferExpiry
  dsimp only
  split
  · refine (Inners.trans ?_ (setChan_inners ..)).trans (reportRefused_inners ..)
    split
    · split
      · exact (leaveGrants_inners ..).trans (captureConflict_inners ..)
      · exact leaveGrants_inners ..
    · exact .refl
  · exact .refl

/-! ## Shot orders and events -/

theorem insertEntry_length (now : Time) (e : Entry) (q : List Entry) :
    (insertEntry now e q).length = q.length + 1 := by
  induction q with
  | nil => rfl
  | cons x xs ih =>
    unfold insertEntry
    split
    · rfl
    · simp [ih]

theorem checkRoom_room (s : State) (o : Output) (start : Time) (d : Nat) (h : s.checkRoom o start d = none) :
    s.poolUse < Config.poolEntries ∧ (s.queue o).length < Config.queueEntries := by
  unfold State.checkRoom at h
  dsimp only at h
  split at h
  · cases h
  · split at h
    · cases h
    · omega

/-- An entry that starts after a served head takes its place behind it. -/
theorem insertEntry_tail (now : Time) (e : Entry) (q : List Entry) (u : e.served = false)
    (h : ∀ x ∈ q.head?, x.served = true → ¬ fromNow now e.start < fromNow now x.start) :
    tailUnserved q → tailUnserved (insertEntry now e q) := by
  have mem : ∀ (q : List Entry) (x : Entry), x ∈ insertEntry now e q → x = e ∨ x ∈ q := by
    intro q
    induction q with
    | nil => intro x m; simpa [insertEntry] using m
    | cons y ys ih =>
      intro x m
      unfold insertEntry at m
      split at m
      · simpa using m
      · rcases List.mem_cons.mp m with rfl | m
        · simp
        · rcases ih x m with r | r <;> simp [r]
  intro t x m
  cases q with
  | nil => simp [insertEntry] at m
  | cons y ys =>
    unfold insertEntry at m
    split at m
    · rename_i lt
      rcases List.mem_cons.mp (by simpa using m) with rfl | m
      · by_contra c
        exact h x (by simp) (by simpa using c) lt
      · exact t x (by simpa using m)
    · rcases mem ys x (by simpa using m) with rfl | m
      · exact u
      · exact t x (by simpa using m)

theorem checkRoom_head (s : State) (o : Output) (start : Time) (d : Nat) (h : s.checkRoom o start d = none) :
    ∀ x ∈ (s.queue o).head?, x.served = true → ¬ fromNow s.now start < fromNow s.now x.start := by
  unfold State.checkRoom at h
  dsimp only at h
  intro x m v lt
  split at h
  · cases h
  · split at h
    · cases h
    · split at h
      · cases h
      · split at h
        · rename_i q
          simp only [q, List.head?_cons, Option.mem_def, Option.some.injEq] at m
          subst m
          split at h
          · cases h
          · rename_i c; exact c ⟨v, le_of_lt lt⟩
        · rename_i q; simp [q] at m

theorem checkFields_source (s : State) (f : ShotFields) (o : Output) (h : s.checkFields f = .ok o) :
    (s.profile o).source = .shot := by
  unfold State.checkFields at h
  split at h
  · cases h
  · repeat (split at h; · cases h)
    rename_i c _ _
    cases h
    simpa using c

theorem admit_inners (s : State) (o : Output) (e : Entry) (d : Nat) (c : s.checkRoom o e.start d = none)
    (m : s.mode ≠ .idle) (k : (s.profile o).source = .shot) : Inners s (s.enterQueue o e) := by
  unfold State.enterQueue
  dsimp only
  have u : (e.admitted s.now).served = false := by unfold Entry.admitted; split <;> rfl
  have r := checkRoom_room _ _ _ _ c
  have m := Inners.one (.grow (s := s) o
    (insertEntry s.now (e.admitted s.now) (s.queue o))
    (insertEntry_length ..) r.1 r.2 (insertEntry_tail _ _ _ u (checkRoom_head s o e.start d c)) m k)
  split
  · exact m.trans (look_inners ..)
  · exact m

theorem book_inners (s : State) (f : ShotFields) (o : Output) (start : Time) (t : State) (m : s.mode ≠ .idle)
    (h : s.book f = .ok (o, start, t)) : Inners s t := by
  unfold State.book at h
  split at h
  · cases h
  · rename_i k
    split at h
    · cases h
    · split at h
      · cases h
      · rename_i n
        simp only [Except.ok.injEq, Prod.mk.injEq] at h
        rw [← h.2.2]
        exact admit_inners _ _ _ _ n m (checkFields_source _ _ _ k)

theorem ownShot_inners (f : ShotFields) (s : State) : Inners s (ownShot f s).state := by
  unfold ownShot
  split
  · exact .refl
  · rename_i m
    split
    · exact .refl
    · exact .refl
    · rename_i h; exact book_inners _ _ _ _ _ m h

theorem pump_mode (s : State) : s.pump.mode = s.mode := by
  unfold State.pump State.choose
  split
  · rfl
  · split
    · rfl
    · split <;> rfl
    · rfl
    · rfl

/-- The inner moves leave the mode alone. -/
theorem Inner.mode {s t : State} (h : Inner s t) : t.mode = s.mode := by
  cases h with
  | post b => exact pump_mode _
  | reply r => unfold State.placeReply; split; exact pump_mode _; rfl
  | cached f b => unfold State.cacheOrder; split <;> rfl
  | _ => rfl

theorem Inners.mode {s t : State} (h : Inners s t) : t.mode = s.mode :=
  h.keeps (P := fun u => u.mode = s.mode) (fun _ _ m e => m.mode.trans e) rfl

theorem bookBatch_inners (fs : List ShotFields) (n : Nat) (s : State) (m : s.mode ≠ .idle) :
    Inners s (bookBatch fs n s).1 := by
  induction fs generalizing n s with
  | nil => exact .refl
  | cons f fs ih =>
    unfold bookBatch
    split
    · rename_i h
      have b := book_inners _ _ _ _ _ m h
      exact b.trans (ih _ _ (by rw [b.mode]; exact m))
    · exact .refl

theorem ownShots_inners (fs : List ShotFields) (s : State) : Inners s (ownShots fs s).state := by
  unfold ownShots
  split
  · exact .refl
  · rename_i m
    have b := bookBatch_inners fs 0 s m
    split
    · rename_i h; rw [h] at b; exact b
    · rename_i h; rw [h] at b; exact b

theorem cancelQueue_inners (s : State) (f : CancelFields) (o : Output) : Inners s (s.cancelQueue f o).2 :=
  (shrink_inners s o _ (List.length_filter_le _ _) (tailUnserved_sublist List.filter_sublist)).trans (foldl_inners _ (fun _ _ => postShotEnd_inners ..) _ _)

theorem cancelQueues_inners (s : State) (f : CancelFields) : Inners s (s.cancelQueues f).2 := by
  have : ∀ (os : List Output) (n : Nat) (s : State),
      Inners s (os.foldl (fun r o => (r.1 + (r.2.cancelQueue f o).1, (r.2.cancelQueue f o).2)) (n, s)).2 := by
    intro os
    induction os with
    | nil => intro n s; exact .refl
    | cons o os ih => intro n s; exact (cancelQueue_inners s f o).trans (ih _ _)
  exact this f.outputs 0 s

theorem cancelHead_inners (s : State) (f : CancelFields) (b : State) (o : Output) : Inners s (s.cancelHead f b o) := by
  unfold State.cancelHead
  split
  · split
    · split
      · exact demandFall_inners ..
      · exact look_inners ..
    · exact .refl
  · exact .refl

theorem ownCancel_inners (f : CancelFields) (s : State) : Inners s (ownCancel f s).state := by
  unfold ownCancel
  split
  · exact .refl
  · exact (cancelQueues_inners s f).trans (foldl_inners _ (fun t o => cancelHead_inners t f s o) _ _)

/-- An entry that goes LATE is not served. -/
theorem tailUnserved_map_late (p : Entry → Bool) (q : List Entry) :
    tailUnserved q → tailUnserved (q.map fun x => if p x then { x with state := .late } else x) := by
  intro t x m
  rw [← List.map_tail] at m
  obtain ⟨y, my, rfl⟩ := List.mem_map.mp m
  split
  · rfl
  · exact t y my

theorem startDue_inners (s : State) (o : Output) (start : Time) : Inners s (s.startDue o start) := by
  unfold State.startDue
  split
  · split
    · rename_i e rest q
      have f := fireHead_inners s o e rest q
      split
      · split
        · rename_i w; rw [w] at f; exact f.trans (look_inners ..)
        · rename_i w; rw [w] at f; exact f
      · exact shrink_inners _ _ _ (by simp) (tailUnserved_map_late _ _)
    · exact .refl
  · exact .refl

theorem dropDue_inners (s : State) (o : Output) (start : Time) : Inners s (s.dropDue o start) := by
  unfold State.dropDue
  split
  · split
    · exact (shrink_inners _ _ _ List.length_eraseP_le (tailUnserved_sublist List.eraseP_sublist)).trans (post_inners ..)
    · exact .refl
  · exact .refl

theorem endDue_inners (s : State) (o : Output) : Inners s (s.endDue o) := by
  unfold State.endDue
  split
  · rename_i q
    split
    · split
      · exact ((rest_inners _ _ _ (by simp [q])).trans (postShotEnd_inners ..)).trans (demandFall_inners ..)
      · exact .refl
    · exact .refl
  · exact .refl

/-! ## Cam Unit -/

theorem camFall_inners (s : State) (o : Output) : Inners s (s.camFall o) := by
  unfold State.camFall
  split
  · rename_i p h
    have f := demandFall_inners (s.setPass o none) o
    split
    · rename_i w; rw [w] at f; exact ((setPass_inners ..).trans f).trans (post_inners ..)
    · rename_i w; rw [w] at f; exact (setPass_inners ..).trans f
  · exact .refl

theorem firstRound_inners (s : State) (m : Output × CamMove) : Inners s (s.firstRound m) := by
  unfold State.firstRound
  split
  · exact setPass_inners ..
  · exact (setPass_inners ..).trans (demandHandover_inners ..)
  · exact camFall_inners ..
  · exact .refl

theorem secondRound_inners (s : State) (m : Output × CamMove) : Inners s (s.secondRound m) := by
  unfold State.secondRound
  split
  · exact (setPass_inners ..).trans (demandRise_inners ..)
  · exact .refl

theorem camRounds_inners (s : State) (d : Output → CamMove) : Inners s (s.camRounds d) :=
  (foldl_inners _ firstRound_inners _ s).trans (foldl_inners _ secondRound_inners _ _)

theorem camPosition_inners (s : State) (x : Nat) : Inners s (s.camPosition x) := by
  unfold State.camPosition
  split
  · exact camRounds_inners ..
  · exact .refl

theorem takeCommit_inners (s : State) (c : CommitCause) : Inners s (s.takeCommit c) :=
  (Inners.one (.cam _)).trans (post_inners ..)

theorem takePending_inners (s : State) (c : CommitCause) : Inners s (s.takePending c) := by
  unfold State.takePending
  split
  · exact takeCommit_inners ..
  · exact .refl

theorem camIndex_inners (s : State) (c : Time) : Inners s (s.camIndex c) := by
  unfold State.camIndex
  split
  · split
    · exact (takeCommit_inners ..).trans (camRounds_inners ..)
    · exact camRounds_inners ..
  · exact .refl

theorem endPasses_inners (s : State) : Inners s s.endPasses := foldl_inners _ camFall_inners _ s

theorem camStateChange_inners (s : State) (a b : TrackerState) : Inners s (s.camStateChange a b) := by
  unfold State.camStateChange
  dsimp only
  have e : Inners s (if a = .synced ∧ b ≠ .synced then s.endPasses else s) := by
    split
    · exact endPasses_inners s
    · exact .refl
  split
  · exact e.trans (takePending_inners ..)
  · exact e

theorem camModeReport_inners (s : State) : Inners s s.camModeReport := by
  unfold State.camModeReport
  split
  · exact .refl
  · exact (Inners.one (.cam _)).trans (takePending_inners ..)

theorem ownCamPut_inners (w : Window) (s : State) : Inners s (ownCamPut w s).state := by
  unfold ownCamPut
  dsimp only
  split
  · exact .refl
  · split
    · exact .refl
    · split
      · exact .refl
      · split
        · exact .refl
        · split
          · exact .refl
          · exact setShadow_inners ..

theorem ownCamDrop_inners (b : Byte) (s : State) : Inners s (ownCamDrop b s).state := by
  unfold ownCamDrop
  split
  · exact .refl
  · split
    · exact .refl
    · split
      · exact .refl
      · exact setShadow_inners ..

theorem ownCamClear_inners (u : Unit) (s : State) : Inners s (ownCamClear u s).state := by
  unfold ownCamClear
  split
  · exact .refl
  · exact setShadow_inners ..

theorem ownCamCopy_inners (u : Unit) (s : State) : Inners s (ownCamCopy u s).state := by
  unfold ownCamCopy
  split
  · exact .refl
  · exact setShadow_inners ..

theorem ownCamCommit_inners (u : Unit) (s : State) : Inners s (ownCamCommit u s).state := by
  unfold ownCamCommit
  dsimp only
  split
  · exact .refl
  · split
    · exact .one (.cam _)
    · exact takeCommit_inners ..

theorem ownCamAbort_inners (u : Unit) (s : State) : Inners s (ownCamAbort u s).state := by
  unfold ownCamAbort
  split
  · exact .one (.cam _)
  · exact .refl

theorem ownCamRead_inners (f : TableSel × Byte) (s : State) : Inners s (ownCamRead f s).state := by
  unfold ownCamRead
  split
  · exact .refl
  · split <;> exact .refl

/-! ## Angle Tracker -/

theorem trackerTo_owns (s : State) (t : Tracker) (c : TrackerCause) : Owns s (s.trackerTo t c) :=
  ((setTracker_owns s t).trans (post_inners _ _).owns).trans (camStateChange_inners ..).owns

theorem pulseSynced_owns (s : State) : Owns s s.pulseSynced := by
  unfold State.pulseSynced
  dsimp only
  split
  · split
    · exact setTracker_owns ..
    · exact (setTracker_owns ..).trans (camPosition_inners ..).owns
  · exact trackerTo_owns ..

theorem motion_owns (s : State) : Owns s s.motion := trackerTo_owns ..

theorem pulse_owns (s : State) : Owns s s.pulse := by
  unfold State.pulse
  dsimp only
  split
  · exact .refl
  · exact .refl
  · exact setTracker_owns ..
  · exact pulseSynced_owns ..
  · exact (motion_owns ..).trans (pulseSynced_owns ..)

theorem acceptIndex_owns (s : State) : Owns s s.acceptIndex := (setTracker_owns ..).trans (camIndex_inners ..).owns

theorem loseSync_owns (s : State) : Owns s s.loseSync := trackerTo_owns ..

theorem index_owns (s : State) : Owns s s.index := by
  unfold State.index
  dsimp only
  split
  · exact .refl
  · exact trackerTo_owns ..
  · split
    · exact trackerTo_owns ..
    · exact setTracker_owns ..
  · split
    · exact acceptIndex_owns ..
    · exact loseSync_owns ..
  · split
    · exact (motion_owns ..).trans (acceptIndex_owns ..)
    · exact loseSync_owns ..

theorem stallExpiry_owns (s : State) : Owns s s.stallExpiry := by
  unfold State.stallExpiry
  dsimp only
  split
  · exact trackerTo_owns ..
  · exact .refl

theorem ownSetAngle_owns (f : AngleFields) (s : State) : Owns s (ownSetAngle f s).state := by
  unfold ownSetAngle
  split
  · exact .refl
  · split
    · exact .refl
    · split
      · exact .refl
      · split
        · exact .refl
        · dsimp only
          split
          · exact setTracker_owns ..
          · exact trackerTo_owns ..

/-! ## Trip Unit -/

theorem tripStart_inners (s : State) (g : GroupId) : Inners s (s.tripStart g) := by
  have r : ∀ t : State, Inners s t → Inners s (if (s.group g).policy = .purge then t.purgeQueues (s.groupMembers g)
      else (0, t)).2 := by
    intro t h
    split
    · exact h.trans (purgeQueues_inners ..)
    · exact h
  exact (r _ ((setGroup_inners s g _).trans (reportAll_inners _ _))).trans (post_inners _ _)

theorem releaseGroup_inners (s : State) (g : GroupId) (h : ReleaseHow) : Inners s (s.releaseGroup g h) :=
  ((setGroup_inners ..).trans (post_inners ..)).trans (reportAll_inners ..)

theorem startRestore_inners (s : State) (g : GroupId) : Inners s (s.startRestore g) := by
  unfold State.startRestore
  dsimp only
  split
  · exact releaseGroup_inners ..
  · exact setGroup_inners ..

theorem evalGroup_inners (s : State) (g : GroupId) : Inners s (s.evalGroup g) := by
  unfold State.evalGroup
  dsimp only
  split
  · split
    · exact .refl
    · exact tripStart_inners ..
  · split
    · exact startRestore_inners ..
    · exact .refl
  · split
    · exact .refl
    · exact setGroup_inners ..

theorem sourceChange_inners (s : State) (m : Byte) : Inners s (s.sourceChange m) := by
  refine foldl_inners _ (fun s g => ?_) _ s
  split
  · exact .refl
  · exact evalGroup_inners ..

theorem faultSample_owns (s : State) (i : InputId) (l : Level) : Owns s (s.faultSample i l) := by
  unfold State.faultSample
  dsimp only
  have p := Owns.one (.faultPins (s := s) (wr s.pins.faults i l))
  split
  · split
    · exact p.trans (setFaultIn_owns ..)
    · exact (p.trans (setFaultIn_owns ..)).trans (sourceChange_inners ..).owns
  · exact p

theorem setRailMonitor_owns (s : State) (m : RailMonitor) : Owns s (s.setRailMonitor m) := by
  unfold State.setRailMonitor
  dsimp only
  split
  · exact .one (.rail m)
  · exact (Owns.one (.rail m)).trans (sourceChange_inners ..).owns

theorem railSample_owns (s : State) (v : Int) : Owns s (s.railSample v) := by
  unfold State.railSample
  dsimp only
  have p := Owns.one (.railPin (s := s) v)
  split
  · exact p.trans (setRailMonitor_owns ..)
  · exact p

theorem setLinkActive_inners (s : State) (a : Bool) : Inners s (s.setLinkActive a) := by
  unfold State.setLinkActive
  split
  · exact .refl
  · exact (Inners.one (.timed s.link.halted s.link.timeout s.link.timer a id)).trans
      (sourceChange_inners ..)

theorem restoreExpiry_inners (s : State) (g : GroupId) : Inners s (s.restoreExpiry g) := by
  unfold State.restoreExpiry
  dsimp only
  split
  · exact releaseGroup_inners ..
  · exact .refl

theorem ownSetFaultin_owns (f : FaultinFields) (s : State) : Owns s (ownSetFaultin f s).state := by
  unfold ownSetFaultin
  dsimp only
  split
  · exact .refl
  · dsimp only
    split
    · exact (setFaultIn_owns ..).trans (sourceChange_inners ..).owns
    · exact setFaultIn_owns ..

theorem ownSetRail_owns (f : RailFields) (s : State) : Owns s (ownSetRail f s).state := by
  unfold ownSetRail
  split
  · exact .refl
  · split
    · exact .refl
    · exact setRailMonitor_owns ..

theorem reviewGroup_inners (s : State) (g : GroupId) : Inners s (s.reviewGroup g) := by
  unfold State.reviewGroup
  split
  · exact .refl
  · exact tripStart_inners ..
  · exact startRestore_inners ..
  · exact .refl
  · exact startRestore_inners ..
  · exact setGroup_inners ..

theorem ownSetTgroup_inners (f : TgroupFields) (s : State) : Inners s (ownSetTgroup f s).state := by
  unfold ownSetTgroup
  split
  · exact .refl
  · exact (setGroup_inners ..).trans (reviewGroup_inners ..)

theorem hostTrip_inners (s : State) (g : GroupId) : Inners s (s.hostTrip g) := by
  unfold State.hostTrip
  split
  · exact .refl
  · exact (setGroup_inners ..).trans (evalGroup_inners ..)

theorem ownTrip_inners (m : BitVec 4) (s : State) : Inners s (ownTrip m s).state := by
  refine foldl_inners _ (fun s g => ?_) _ s
  split
  · exact hostTrip_inners ..
  · exact .refl

theorem releaseOrder_inners (s : State) (g : GroupId) : Inners s (s.releaseOrder g) := by
  unfold State.releaseOrder
  dsimp only
  split
  · exact (setGroup_inners ..).trans (releaseGroup_inners ..)
  · split
    · exact (setGroup_inners ..).trans (evalGroup_inners ..)
    · exact setGroup_inners ..

theorem ownRelease_inners (g : GroupId) (s : State) : Inners s (ownRelease g s).state := by
  unfold ownRelease
  split
  · exact .refl
  · split
    · exact .refl
    · exact releaseOrder_inners ..

/-! ## Modes, channel orders, link, resets -/

theorem changeMode_owns (s : State) (m : Mode) : Owns s (s.changeMode m) :=
  ((Owns.one (.mode m)).trans (reportAll_inners ..).owns).trans (camModeReport_inners ..).owns

theorem ownStart_owns (u : Unit) (s : State) : Owns s (ownStart u s).state := by
  unfold ownStart
  split
  · exact .refl
  · exact changeMode_owns ..

theorem ownStop_owns (u : Unit) (s : State) : Owns s (ownStop u s).state := by
  unfold ownStop
  split
  · exact .refl
  · exact (changeMode_owns ..).trans (purgeQueues_inners ..).owns

theorem ownPause_owns (u : Unit) (s : State) : Owns s (ownPause u s).state := by
  unfold ownPause
  split
  · exact .refl
  · exact changeMode_owns ..

theorem ownResume_owns (u : Unit) (s : State) : Owns s (ownResume u s).state := by
  unfold ownResume
  split
  · exact .refl
  · exact changeMode_owns ..

theorem ownSetProfile_owns (f : Output × Profile) (s : State) : Owns s (ownSetProfile f s).state := by
  unfold ownSetProfile
  dsimp only
  split
  · exact .refl
  · split
    · exact .refl
    · split
      · exact .refl
      · exact (setProfile_owns ..).trans (setChan_inners ..).owns

theorem takeManual_inners (s : State) (o : Output) (on : Bool) : Inners s (s.takeManual o on) := by
  unfold State.takeManual
  split
  · exact .refl
  · split
    · exact (setChan_inners ..).trans (demandRise_inners ..)
    · exact (setChan_inners ..).trans (demandFall_inners ..)

theorem ownManual_inners (f : Output × Bool) (s : State) : Inners s (ownManual f s).state := by
  unfold ownManual
  split
  · exact .refl
  · split
    · exact .refl
    · split
      · exact .refl
      · exact takeManual_inners ..

theorem linkExpiry_inners (s : State) : Inners s s.linkExpiry := by
  unfold State.linkExpiry
  split
  · exact (Inners.one (.timed s.link.halted s.link.timeout none s.link.linkActive id)).trans (setLinkActive_inners ..)
  · exact .refl

theorem ownSetLink_inners (f : Baud × Nat) (s : State) : Inners s (ownSetLink f s).state := by
  unfold ownSetLink
  dsimp only
  have m := fun timer => Inners.one (.timed (s := s) s.link.halted f.2 timer s.link.linkActive id)
  split
  · exact (m none).trans (setLinkActive_inners ..)
  · exact m _

theorem ownReset_inners (u : Unit) (s : State) : Inners s (ownReset u s).state :=
  .one (.timed true s.link.timeout s.link.timer s.link.linkActive fun _ => rfl)

theorem ownSetIset_inners (f : IsetFields) (s : State) : Inners s (ownSetIset f s).state := by
  unfold ownSetIset
  split
  · exact .refl
  · exact setIset_inners ..

/-! ## Every order -/

/-- The owner of an order that only reads leaves the state as it is. -/
theorem still {α : Type} {owner : α → State → Answer} (e : ∀ a s, (owner a s).state = s) (a : α) (s : State) :
    Owns s (owner a s).state := by
  rw [e a s]

/-- Every order is its owner's moves and its end. A known kind makes no UNKNOWN_ORDER. -/
theorem exec_ordered (i : Instr) (f : OrderFrame) (s t : State) (c : commandFrame i = some f)
    (w : ∀ q k b, i = .unknownOrder q k b → kindKnown k = false) (h : exec i s = .next t) : Ordered f s t := by
  cases i with
  | ident => cases c; exact order_ordered _ _ _ (still fun _ _ => rfl) _ _ s t h
  | status => cases c; exact order_ordered _ _ _ (still fun _ _ => rfl) _ _ s t h
  | time => cases c; exact order_ordered _ _ _ (still fun _ _ => rfl) _ _ s t h
  | setLink => cases c; exact order_ordered _ _ _ (fun a s => (ownSetLink_inners a s).owns) _ _ s t h
  | reset => cases c; exact order_ordered _ _ _ (fun a s => (ownReset_inners a s).owns) _ _ s t h
  | start => cases c; exact order_ordered _ _ _ ownStart_owns _ _ s t h
  | stop => cases c; exact order_ordered _ _ _ ownStop_owns _ _ s t h
  | pause => cases c; exact order_ordered _ _ _ ownPause_owns _ _ s t h
  | resume => cases c; exact order_ordered _ _ _ ownResume_owns _ _ s t h
  | setProfile => cases c; exact order_ordered _ _ _ ownSetProfile_owns _ _ s t h
  | channel => cases c; exact order_ordered _ _ _ (still fun _ _ => rfl) _ _ s t h
  | manual => cases c; exact order_ordered _ _ _ (fun a s => (ownManual_inners a s).owns) _ _ s t h
  | shot => cases c; exact order_ordered _ _ _ (fun a s => (ownShot_inners a s).owns) _ _ s t h
  | shots => cases c; exact order_ordered _ _ _ (fun a s => (ownShots_inners a s).owns) _ _ s t h
  | cancel => cases c; exact order_ordered _ _ _ (fun a s => (ownCancel_inners a s).owns) _ _ s t h
  | queueRead => cases c; exact order_ordered _ _ _ (still fun _ _ => rfl) _ _ s t h
  | setAngle => cases c; exact order_ordered _ _ _ ownSetAngle_owns _ _ s t h
  | setCycle => cases c; exact order_ordered _ _ _ (fun _ _ => setTracker_owns ..) _ _ s t h
  | camPut => cases c; exact order_ordered _ _ _ (fun a s => (ownCamPut_inners a s).owns) _ _ s t h
  | camDrop => cases c; exact order_ordered _ _ _ (fun a s => (ownCamDrop_inners a s).owns) _ _ s t h
  | camClear => cases c; exact order_ordered _ _ _ (fun a s => (ownCamClear_inners a s).owns) _ _ s t h
  | camCopy => cases c; exact order_ordered _ _ _ (fun a s => (ownCamCopy_inners a s).owns) _ _ s t h
  | camCommit => cases c; exact order_ordered _ _ _ (fun a s => (ownCamCommit_inners a s).owns) _ _ s t h
  | camAbort => cases c; exact order_ordered _ _ _ (fun a s => (ownCamAbort_inners a s).owns) _ _ s t h
  | camRead => cases c; exact order_ordered _ _ _ (fun a s => (ownCamRead_inners a s).owns) _ _ s t h
  | setIset => cases c; exact order_ordered _ _ _ (fun a s => (ownSetIset_inners a s).owns) _ _ s t h
  | isetRead => cases c; exact order_ordered _ _ _ (still fun _ _ => rfl) _ _ s t h
  | setConflict => cases c; exact order_ordered _ _ _ (fun _ _ => .one (.policy _)) _ _ s t h
  | conflictRead => cases c; exact order_ordered _ _ _ (fun _ _ => (Inners.one (.conflict _)).owns) _ _ s t h
  | setFaultin => cases c; exact order_ordered _ _ _ ownSetFaultin_owns _ _ s t h
  | setRail => cases c; exact order_ordered _ _ _ ownSetRail_owns _ _ s t h
  | setTgroup => cases c; exact order_ordered _ _ _ (fun a s => (ownSetTgroup_inners a s).owns) _ _ s t h
  | trip => cases c; exact order_ordered _ _ _ (fun a s => (ownTrip_inners a s).owns) _ _ s t h
  | release => cases c; exact order_ordered _ _ _ (fun a s => (ownRelease_inners a s).owns) _ _ s t h
  | tripRead => cases c; exact order_ordered _ _ _ (still fun _ _ => rfl) _ _ s t h
  | unknownOrder q k b =>
    cases c
    simp only [exec, execUnknownOrder, w _ _ _ rfl] at h
    exact order_ordered _ _ _ (still fun _ _ => rfl) _ _ s t h
  | _ => cases c

/-- The taking of a frame is the order command it stands for. -/
theorem takeFrame_exec (f : OrderFrame) (s : State) : takeFrame f s = exec (orderCommand f) s := by
  unfold takeFrame orderCommand
  generalize f.kind.toNat = k
  split
  case h_36 => first | rfl | (split <;> first | contradiction | rfl)
  all_goals rfl

theorem commandFrame_orderCommand (f : OrderFrame) : commandFrame (orderCommand f) = some f := by
  obtain ⟨q, k, b⟩ := f
  have e : k = BitVec.ofNat 8 k.toNat := by simp
  unfold orderCommand
  dsimp only
  split
  case h_36 => rfl
  all_goals (rename_i n; rw [n] at e; subst e; rfl)

/-- A frame of a known kind stands for its order. -/
theorem orderCommand_known (f : OrderFrame) (q k : Byte) (b : List Byte) (h : orderCommand f = .unknownOrder q k b) :
    kindKnown k = false := by
  have e : f.kind = k := by
    have := commandFrame_orderCommand f
    rw [h] at this
    simp only [commandFrame, Option.some.injEq] at this
    rw [← this]
  subst e
  revert h
  unfold kindKnown orderCommand
  dsimp only
  generalize f.kind.toNat = n
  split <;> intro h <;> first | rfl | cases h

/-- An order command always answers a next state. -/
theorem orderCommand_next (f : OrderFrame) (s : State) : ∃ t, exec (orderCommand f) s = .next t := by
  unfold orderCommand
  split
  case h_36 => simp only [exec, execUnknownOrder]; split <;> exact ⟨_, rfl⟩
  all_goals exact ⟨_, rfl⟩

/-! ## The decoder's turn -/

/-- The taking of a frame is the step of its order command. -/
theorem afterTaking_exec (s : State) (f : OrderFrame) : exec (orderCommand f) s = .next (s.afterTaking f) := by
  obtain ⟨t, h⟩ := orderCommand_next f s
  unfold State.afterTaking
  rw [takeFrame_exec, h]

theorem afterTaking_ordered (s : State) (f : OrderFrame) : Ordered f s (s.afterTaking f) :=
  exec_ordered _ f s _ (commandFrame_orderCommand f) (orderCommand_known f) (afterTaking_exec s f)

theorem afterTaking_moves (s : State) (f : OrderFrame) : Moves s (s.afterTaking f) := (afterTaking_ordered s f).moves

theorem takeFrames_moves (n : Nat) (s : State) : Moves s (s.takeFrames n) := by
  induction n generalizing s with
  | zero => exact .refl
  | succ n ih =>
    unfold State.takeFrames
    split
    · exact .refl
    · split
      · exact (afterTaking_moves ..).trans (ih _)
      · exact .refl

theorem settle_moves (s : State) : Moves s s.settle := takeFrames_moves _ _

/-! ## Link -/

theorem admission_moves (s : State) (f : OrderFrame) : Moves s (s.admission f) := by
  unfold State.admission
  split
  · exact (placeReply_inners ..).moves
  · split
    · exact .refl
    · split
      · exact (placeReply_inners ..).moves
      · exact .one (.admitted f (by omega))

theorem touchLink_inners (s : State) : Inners s s.touchLink := by
  unfold State.touchLink
  split
  · exact .refl
  · exact (Inners.one (.timed s.link.halted s.link.timeout _ s.link.linkActive id)).trans (setLinkActive_inners ..)

theorem frameArrival_moves (s : State) (f : OrderFrame) : Moves s (s.frameArrival f) :=
  (touchLink_inners s).moves.trans (admission_moves ..)

theorem frameArrivals_moves (fs : List OrderFrame) (s : State) : Moves s (fs.foldl State.frameArrival s) := by
  induction fs generalizing s with
  | nil => exact .refl
  | cons f fs ih => exact (frameArrival_moves s f).trans (ih _)

theorem arrive_moves (s : State) (fs : List OrderFrame) : Moves s (s.arrive fs) := by
  unfold State.arrive
  split
  · exact .refl
  · exact (frameArrivals_moves ..).trans (settle_moves _)

theorem takeScan_moves (s : State) (r : List OrderFrame × List Byte) : Moves s (s.takeScan r) :=
  (Moves.one (.framer _ _)).trans (arrive_moves ..)

theorem byteArrival_moves (s : State) (rx : RxByte) : Moves s (s.byteArrival rx) := by
  cases rx <;> exact takeScan_moves ..

theorem gapExpiry_moves (s : State) : Moves s s.gapExpiry := by
  unfold State.gapExpiry
  split
  · exact takeScan_moves ..
  · exact .refl

theorem frameSent_moves (s : State) : Moves s s.frameSent := by
  unfold State.frameSent
  split
  · exact .refl
  · dsimp only
    split
    · exact (Moves.one (.sent s.link.baud s.link.candidate s.link.gapTimer)).trans (settle_moves _)
    · unfold State.changeBaud
      split
      · exact (Moves.one (.sent s.link.baud s.link.candidate s.link.gapTimer)).trans (settle_moves _)
      · exact (Moves.one (.sent _ _ _)).trans (settle_moves _)
    · exact .one (.ended .order s.link.baud)

theorem supplySettled_moves (s : State) : Moves s s.supplySettled := by
  unfold State.supplySettled
  split
  · exact .refl
  · split
    · exact .one (.pins _)
    · exact (Moves.one (.pins _)).trans (.one (.ended _ _))

theorem nrstLow_moves (s : State) : Moves s s.nrstLow := by
  unfold State.nrstLow
  split
  · exact .refl
  · exact (Moves.one (.pins _)).trans (.one .held)

theorem nrstHigh_moves (s : State) : Moves s s.nrstHigh := by
  unfold State.nrstHigh
  split
  · exact .refl
  · split
    · exact (Moves.one (.pins _)).trans (.one (.ended _ _))
    · exact .one (.pins _)

/-! ## Every command -/

/-- Every command is a sequence of moves. -/
theorem exec_moves (i : Instr) (s t : State) (h : exec i s = .next t) : Moves s t := by
  cases q : commandFrame i with
  | some f =>
    by_cases w : ∀ q k b, i = .unknownOrder q k b → kindKnown k = false
    · exact (exec_ordered i f s t q w h).moves
    · push Not at w
      obtain ⟨_, _, _, rfl, k⟩ := w
      simp only [ne_eq, Bool.not_eq_false] at k
      simp only [exec, execUnknownOrder, k] at h
      cases h
      exact .refl
  | none =>
    cases i with
    | byteArrival rx => exact event_moves _ (fun s => byteArrival_moves s rx) s t h
    | gapTimerExpiry => exact event_moves _ gapExpiry_moves s t h
    | frameSent => exact event_moves _ frameSent_moves s t h
    | supplyFail => cases h; exact (Moves.one (.pins _)).trans (.one .held)
    | supplySettled => cases h; exact supplySettled_moves s
    | nrstLow => cases h; exact nrstLow_moves s
    | nrstHigh => cases h; exact nrstHigh_moves s
    | linkTimerExpiry => exact (event_inners _ linkExpiry_inners s t h).moves
    | boostTimerExpiry o => exact (event_inners _ (fun s => boostExpiry_inners s o) s t h).moves
    | maxOnTimerExpiry o => exact (event_inners _ (fun s => maxOnExpiry_inners s o) s t h).moves
    | recoverTimerExpiry o => exact (event_inners _ (fun s => recoverExpiry_inners s o) s t h).moves
    | deferTimerExpiry o => exact (event_inners _ (fun s => deferExpiry_inners s o) s t h).moves
    | shotStartDue o st => exact (event_inners _ (fun s => startDue_inners s o st) s t h).moves
    | shotDropDue o st => exact (event_inners _ (fun s => dropDue_inners s o st) s t h).moves
    | shotEndDue o => exact (event_inners _ (fun s => endDue_inners s o) s t h).moves
    | restoreTimerExpiry g => exact (event_inners _ (fun s => restoreExpiry_inners s g) s t h).moves
    | encPulse => exact (event_owns _ pulse_owns s t h).moves
    | idxIndex => exact (event_owns _ index_owns s t h).moves
    | stallTimerExpiry => exact (event_owns _ stallExpiry_owns s t h).moves
    | faultSample i l => exact (event_owns _ (fun s => faultSample_owns s i l) s t h).moves
    | railSample v => exact (event_owns _ (fun s => railSample_owns s v) s t h).moves
    | _ => cases q

end Sys2Proof.Machine
end

