-- ==== Sys2Proof/Laws/Keeps.lean ====
section
/-! SUPPORT. What the shared operations leave alone, said once: the arbiter and the posts touch the link and the notices
only, the end of an order the link and the notices only, the world's order of things together only the model's own
fields; and the inner moves leave alone the fields that only a few commands write. -/

namespace Sys2Proof.Machine

/-! ## The arbiter, the posts, the end of an order -/

theorem pump_frame (s : State) : s.pump = { s with link := s.pump.link, notices := s.pump.notices } := by
  unfold State.pump State.choose
  split
  · rfl
  · split
    · rfl
    · split <;> rfl
    · rfl
    · rfl

theorem post_frame (s : State) (b : NoticeBody) :
    s.post b = { s with link := (s.post b).link, notices := (s.post b).notices } := by
  unfold State.post
  rw [pump_frame]

theorem placeReply_frame (s : State) (r : Reply) :
    s.placeReply r = { s with link := (s.placeReply r).link, notices := (s.placeReply r).notices } := by
  unfold State.placeReply
  split
  · rw [pump_frame]
  · rfl

theorem cacheOrder_frame (s : State) (f : OrderFrame) (b : ReplyBody) :
    s.cacheOrder f b = { s with link := (s.cacheOrder f b).link } := by
  unfold State.cacheOrder
  split <;> rfl

theorem leaveInbox_frame (s : State) (f : OrderFrame) :
    s.leaveInbox f = { s with link := (s.leaveInbox f).link } := by
  unfold State.leaveInbox
  split <;> rfl

/-- The end of an order changes the link and the notices alone. -/
theorem answer_frame (s : State) (f : OrderFrame) (b : ReplyBody) (d : Bound) :
    s.answer f b d = { s with link := (s.answer f b d).link, notices := (s.answer f b d).notices } := by
  unfold State.answer
  rw [leaveInbox_frame, cacheOrder_frame, placeReply_frame]

/-- The arbiter leaves a busy transmitter alone. -/
theorem pump_busy {s : State} (h : s.link.tx.isSome = true) : s.pump = s := by simp [State.pump, h]

/-- The arbiter finds nothing to send. -/
theorem pump_quiet {s : State} (r : s.link.replies = []) (n : s.notices.waiting = []) : s.pump = s := by
  simp [State.pump, State.choose, r, n]

/-- A full reply queue takes no reply. -/
theorem placeReply_full {s : State} {r : Reply} (h : Config.replyFrames ≤ s.link.replies.length) :
    s.placeReply r = s := by
  simp [State.placeReply, Nat.not_lt.mpr h]

/-! ## Taking an order, taking an event -/

/-- An order that is taken and passes the decoder's checks: the owner's answer. -/
theorem order_taken {α : Type} {kind : Byte} {decode : List Byte → Except Result α} {owner : α → State → Answer}
    {seq : Byte} {body : List Byte} {s : State} {a : α} (h : s.takes ⟨seq, kind, body⟩ = true)
    (d : decode body = .ok a) :
    order kind decode owner seq body s =
      .next ((owner a s).state.answer ⟨seq, kind, body⟩ (owner a s).body (owner a s).bound) := by
  simp only [order, takeOrder, h, if_true, d]

/-- An order that is taken and fails a check of the decoder's: the code of the check. -/
theorem order_refused {α : Type} {kind : Byte} {decode : List Byte → Except Result α} {owner : α → State → Answer}
    {seq : Byte} {body : List Byte} {s : State} {r : Result} (h : s.takes ⟨seq, kind, body⟩ = true)
    (d : decode body = .error r) :
    order kind decode owner seq body s = .next (s.answer ⟨seq, kind, body⟩ (.code r) .nothing) := by
  simp only [order, takeOrder, h, if_true, d]

/-- An order that is not the decoder's next does nothing. -/
theorem order_waits {α : Type} {kind : Byte} {decode : List Byte → Except Result α} {owner : α → State → Answer}
    {seq : Byte} {body : List Byte} {s : State} (h : s.takes ⟨seq, kind, body⟩ = false) :
    order kind decode owner seq body s = .next s := by
  simp [order, takeOrder, h]

/-- Outside a reset an event is taken. -/
theorem event_taken {f : State → State} {s : State} (h : s.inReset = false) : event f s = .next (f s) := by
  simp [event, h]

/-- While a reset lasts no event is taken. -/
theorem event_held {f : State → State} {s : State} (h : s.inReset = true) : event f s = .next s := by
  simp [event, h]

/-! ## The order of things together -/

theorem takePick_frame (s : State) : s.takePick.2 = { s with choices := s.takePick.2.choices, picks := s.takePick.2.picks } := by
  unfold State.takePick
  split <;> rfl

theorem arrangeN_frame {α : Type} (n : Nat) (xs : List α) (s : State) :
    (arrangeN n xs s).2 = { s with choices := (arrangeN n xs s).2.choices, picks := (arrangeN n xs s).2.picks } := by
  induction n generalizing xs s with
  | zero => rfl
  | succ n ih =>
    match xs with
    | [] => rfl
    | [_] => rfl
    | _ :: _ :: _ =>
      unfold arrangeN
      dsimp only
      rw [ih, takePick_frame]

/-- An order of the world changes the model's own fields alone. -/
theorem arrange_frame {α : Type} (xs : List α) (s : State) :
    (arrange xs s).2 = { s with choices := (arrange xs s).2.choices, picks := (arrange xs s).2.picks } :=
  arrangeN_frame _ _ _

/-- The pick of a look changes the model's own fields alone. -/
theorem lookDrops_frame (s : State) (e : Entry) :
    (s.lookDrops e).2 =
      { s with choices := (s.lookDrops e).2.choices, picks := (s.lookDrops e).2.picks } := by
  unfold State.lookDrops State.firstOfTwo
  split
  · exact takePick_frame s
  · rfl

theorem arrangeN_perm {α : Type} (n : Nat) (xs : List α) (s : State) : (arrangeN n xs s).1.Perm xs := by
  induction n generalizing xs s with
  | zero => exact .refl _
  | succ n ih =>
    match xs with
    | [] => exact .refl _
    | [_] => exact .refl _
    | x :: y :: rest =>
      unfold arrangeN
      dsimp only
      have lt : s.takePick.1 % (x :: y :: rest).length < (x :: y :: rest).length := Nat.mod_lt _ (by simp)
      rw [List.getD_eq_getElem _ _ lt]
      exact ((ih _ _).cons _).trans (List.getElem_cons_eraseIdx_perm lt)

/-- An order of the world has each thing once: whatever it picks, no event is lost or taken twice. -/
theorem arrange_perm {α : Type} (xs : List α) (s : State) : (arrange xs s).1.Perm xs := arrangeN_perm _ _ _

/-! ## What the inner moves leave alone -/

/-- The fields that no shared operation writes: the clock, the mode, the reset cause, the tracker, the profiles, the
conflict policy, the fault inputs, the rail monitor, the pins, and the queue of commands. -/
theorem Inner.frame {s t : State} (h : Inner s t) :
    t = { t with
      pending := s.pending, now := s.now, mode := s.mode, resetCause := s.resetCause, tracker := s.tracker,
      profiles := s.profiles, conflictPolicy := s.conflictPolicy, faultIns := s.faultIns, rail := s.rail,
      pins := s.pins } := by
  cases h with
  | post b => rw [post_frame]
  | reply r => rw [placeReply_frame]
  | cached f b => rw [cacheOrder_frame]
  | _ => rfl

/-- The same for a sequence of inner moves. -/
theorem Inners.frame {s t : State} (h : Inners s t) :
    t = { t with
      pending := s.pending, now := s.now, mode := s.mode, resetCause := s.resetCause, tracker := s.tracker,
      profiles := s.profiles, conflictPolicy := s.conflictPolicy, faultIns := s.faultIns, rail := s.rail,
      pins := s.pins } := by
  induction h with
  | refl => rfl
  | tail _ m ih =>
    have f := m.frame
    rw [ih] at f
    exact f

/-! ## What the own moves leave alone -/

/-- The parts of the link that belong to the framer, to the arbiter's rate and to admission. -/
def Link.intake (l : Link) : Baud × List Byte × Option Time × List OrderFrame :=
  (l.baud, l.candidate, l.gapTimer, l.inbox)

theorem pump_intake (s : State) : s.pump.link.intake = s.link.intake := by
  unfold State.pump State.choose
  split
  · rfl
  · split
    · rfl
    · split <;> rfl
    · rfl
    · rfl

theorem placeReply_intake (s : State) (r : Reply) : (s.placeReply r).link.intake = s.link.intake := by
  unfold State.placeReply
  split
  · exact pump_intake _
  · rfl

theorem Inner.intake {s t : State} (h : Inner s t) : t.link.intake = s.link.intake := by
  cases h with
  | post b => exact pump_intake _
  | reply r => exact placeReply_intake _ _
  | cached f b => unfold State.cacheOrder; split <;> rfl
  | _ => rfl

theorem Own.intake {s t : State} (h : Own s t) : t.link.intake = s.link.intake := by
  cases h with
  | inner t h => exact h.intake
  | _ => rfl

/-- No owner touches the framer, the baud code or the inbox. -/
theorem Owns.intake {s t : State} (h : Owns s t) : t.link.intake = s.link.intake :=
  h.keeps (P := fun u => u.link.intake = s.link.intake) (fun _ _ m e => m.intake.trans e) rfl

theorem Owns.inbox {s t : State} (h : Owns s t) : t.link.inbox = s.link.inbox := congrArg (·.2.2.2) h.intake

/-! ## The end of an order -/

/-- What the end of an order leaves of the framer, the baud code and the inbox. -/
theorem answer_intake (s : State) (f : OrderFrame) (b : ReplyBody) (d : Bound) :
    (s.answer f b d).link.intake =
      (s.link.baud, s.link.candidate, s.link.gapTimer,
        if s.link.inbox.head? = some f then s.link.inbox.tail else s.link.inbox) := by
  have e := ((replied_inners s f b d).owns).intake
  simp only [Link.intake, Prod.mk.injEq] at e
  simp only [State.answer, State.leaveInbox, e]
  split <;> simp only [Link.intake, e]

/-! ## The decoder's turn -/

/-- A frame's leaving touches the inbox alone. -/
theorem leaveInbox_head {s : State} {f : OrderFrame} {rest : List OrderFrame} (h : s.link.inbox = f :: rest) :
    s.leaveInbox f = { s with link := { s.link with inbox := rest } } := by
  simp [State.leaveInbox, h]

/-- The decoder's taking of the inbox's oldest frame: the frame is gone, the framer and the baud code are as they
were. -/
theorem afterTaking_intake {s : State} {f : OrderFrame} {rest : List OrderFrame} (r : s.decoderReady = true)
    (h : s.link.inbox = f :: rest) :
    (s.afterTaking f).link.intake = (s.link.baud, s.link.candidate, s.link.gapTimer, rest) := by
  have o := afterTaking_ordered s f
  have k : s.takes f = true := by simp [State.takes, r, h]
  simp only [Ordered, k, if_true] at o
  obtain ⟨u, m, e⟩ := o
  have i := m.intake
  simp only [Link.intake, Prod.mk.injEq] at i
  rw [e, leaveInbox_head (i.2.2.2.trans h)]
  simp only [Link.intake, i]

/-- Nothing is taken where the decoder may take none. -/
theorem settle_done {s : State} (h : s.decoderReady = false ∨ s.link.inbox = []) : s.settle = s := by
  unfold State.settle
  rcases h with h | h
  · cases e : s.link.inbox with
    | nil => rfl
    | cons f fs => simp [State.takeFrames, e, h]
  · rw [h]; rfl

/-- Where the decoder may take an order, it takes the oldest, and then the rest. -/
theorem settle_takes {s : State} {f : OrderFrame} {rest : List OrderFrame} (r : s.decoderReady = true)
    (h : s.link.inbox = f :: rest) : s.settle = (s.afterTaking f).settle := by
  have i : (s.afterTaking f).link.inbox = rest := congrArg (·.2.2.2) (afterTaking_intake r h)
  unfold State.settle
  rw [h, i]
  simp only [List.length_cons, State.takeFrames, h, r, if_true]

/-- The decoder stops where the inbox is empty or it may take none, and leaves the framer and the baud code alone. -/
theorem settle_ends (s : State) :
    (s.settle.decoderReady = true → s.settle.link.inbox = []) ∧ s.settle.link.baud = s.link.baud ∧
      s.settle.link.candidate = s.link.candidate ∧ s.settle.link.gapTimer = s.link.gapTimer := by
  generalize n : s.link.inbox = fs
  induction fs generalizing s with
  | nil => rw [settle_done (.inr n)]; exact ⟨fun _ => n, rfl, rfl, rfl⟩
  | cons f fs ih =>
    cases r : s.decoderReady with
    | false => rw [settle_done (.inl r)]; simp [r]
    | true =>
      have i := afterTaking_intake r n
      simp only [Link.intake, Prod.mk.injEq] at i
      rw [settle_takes r n]
      have e := ih _ i.2.2.2
      rw [i.1, i.2.1, i.2.2.1] at e
      exact e

end Sys2Proof.Machine
end

