-- ==== Sys2Proof/Laws/PerInstr.lean ====
section
/-! SUPPORT. A statement about every command, one lemma per constructor: the frame a well-formed order command stands for
is one the framer can have found, and the Order Decoder reads that command back from it. -/

namespace Sys2Proof.Laws.Frames

/-- The frame of a well-formed command, where it has one, is well formed and stands for that command. -/
def Statement (i : Instr) : Prop :=
  i.wellFormed = true → ∀ f, commandFrame i = some f → orderCommand f = i ∧ f.wellFormed = true

/-- Commands without a frame. -/
theorem none_of {i : Instr} (h : commandFrame i = none) : Statement i := by
  intro _ f e
  rw [h] at e
  cases e

/-- Orders of a known kind. -/
theorem some_of {i : Instr} {f : OrderFrame} (h : commandFrame i = some f) (c : orderCommand f = i)
    (w : i.wellFormed = f.wellFormed) : Statement i := by
  intro wi g e
  rw [h] at e
  cases e
  exact ⟨c, w ▸ wi⟩

theorem ident (seq : Byte) (body : List Byte) : Statement (.ident seq body) := some_of rfl rfl rfl
theorem status (seq : Byte) (body : List Byte) : Statement (.status seq body) := some_of rfl rfl rfl
theorem time (seq : Byte) (body : List Byte) : Statement (.time seq body) := some_of rfl rfl rfl
theorem setLink (seq : Byte) (body : List Byte) : Statement (.setLink seq body) := some_of rfl rfl rfl
theorem reset (seq : Byte) (body : List Byte) : Statement (.reset seq body) := some_of rfl rfl rfl
theorem start (seq : Byte) (body : List Byte) : Statement (.start seq body) := some_of rfl rfl rfl
theorem stop (seq : Byte) (body : List Byte) : Statement (.stop seq body) := some_of rfl rfl rfl
theorem pause (seq : Byte) (body : List Byte) : Statement (.pause seq body) := some_of rfl rfl rfl
theorem resume (seq : Byte) (body : List Byte) : Statement (.resume seq body) := some_of rfl rfl rfl
theorem setProfile (seq : Byte) (body : List Byte) : Statement (.setProfile seq body) := some_of rfl rfl rfl
theorem channel (seq : Byte) (body : List Byte) : Statement (.channel seq body) := some_of rfl rfl rfl
theorem manual (seq : Byte) (body : List Byte) : Statement (.manual seq body) := some_of rfl rfl rfl
theorem shot (seq : Byte) (body : List Byte) : Statement (.shot seq body) := some_of rfl rfl rfl
theorem shots (seq : Byte) (body : List Byte) : Statement (.shots seq body) := some_of rfl rfl rfl
theorem cancel (seq : Byte) (body : List Byte) : Statement (.cancel seq body) := some_of rfl rfl rfl
theorem queueRead (seq : Byte) (body : List Byte) : Statement (.queueRead seq body) := some_of rfl rfl rfl
theorem setAngle (seq : Byte) (body : List Byte) : Statement (.setAngle seq body) := some_of rfl rfl rfl
theorem setCycle (seq : Byte) (body : List Byte) : Statement (.setCycle seq body) := some_of rfl rfl rfl
theorem camPut (seq : Byte) (body : List Byte) : Statement (.camPut seq body) := some_of rfl rfl rfl
theorem camDrop (seq : Byte) (body : List Byte) : Statement (.camDrop seq body) := some_of rfl rfl rfl
theorem camClear (seq : Byte) (body : List Byte) : Statement (.camClear seq body) := some_of rfl rfl rfl
theorem camCopy (seq : Byte) (body : List Byte) : Statement (.camCopy seq body) := some_of rfl rfl rfl
theorem camCommit (seq : Byte) (body : List Byte) : Statement (.camCommit seq body) := some_of rfl rfl rfl
theorem camAbort (seq : Byte) (body : List Byte) : Statement (.camAbort seq body) := some_of rfl rfl rfl
theorem camRead (seq : Byte) (body : List Byte) : Statement (.camRead seq body) := some_of rfl rfl rfl
theorem setIset (seq : Byte) (body : List Byte) : Statement (.setIset seq body) := some_of rfl rfl rfl
theorem isetRead (seq : Byte) (body : List Byte) : Statement (.isetRead seq body) := some_of rfl rfl rfl
theorem setConflict (seq : Byte) (body : List Byte) : Statement (.setConflict seq body) := some_of rfl rfl rfl
theorem conflictRead (seq : Byte) (body : List Byte) : Statement (.conflictRead seq body) := some_of rfl rfl rfl
theorem setFaultin (seq : Byte) (body : List Byte) : Statement (.setFaultin seq body) := some_of rfl rfl rfl
theorem setRail (seq : Byte) (body : List Byte) : Statement (.setRail seq body) := some_of rfl rfl rfl
theorem setTgroup (seq : Byte) (body : List Byte) : Statement (.setTgroup seq body) := some_of rfl rfl rfl
theorem trip (seq : Byte) (body : List Byte) : Statement (.trip seq body) := some_of rfl rfl rfl
theorem release (seq : Byte) (body : List Byte) : Statement (.release seq body) := some_of rfl rfl rfl
theorem tripRead (seq : Byte) (body : List Byte) : Statement (.tripRead seq body) := some_of rfl rfl rfl
/-- An unknown kind is read as UNKNOWN_ORDER. -/
theorem unknown_kind (seq kind : Byte) (body : List Byte) (h : knownKinds.contains kind = false) :
    orderCommand ⟨seq, kind, body⟩ = .unknownOrder seq kind body := by
  have t : ∀ kind : Byte, knownKinds.contains kind = false →
      orderCommand ⟨seq, kind, body⟩ = .unknownOrder seq kind body := by
    intro k
    unfold orderCommand
    dsimp only
    split <;> first | (intro _; rfl) | skip
    all_goals
      rename_i e
      intro c
      have k' : k = BitVec.ofNat 8 k.toNat := by simp
      rw [e] at k'
      rw [k'] at c
      exact absurd c (by decide)
  exact t kind h

theorem unknownOrder (seq : Byte) (kind : Byte) (body : List Byte) : Statement (.unknownOrder seq kind body) := by
  intro w f e
  cases e
  simp only [Instr.wellFormed, Bool.and_eq_true, Bool.not_eq_true'] at w
  exact ⟨unknown_kind _ _ _ w.2, w.1⟩
theorem byteArrival (rx : RxByte) : Statement (.byteArrival rx) := none_of rfl
theorem gapTimerExpiry : Statement .gapTimerExpiry := none_of rfl
theorem linkTimerExpiry : Statement .linkTimerExpiry := none_of rfl
theorem frameSent : Statement .frameSent := none_of rfl
theorem supplyFail : Statement .supplyFail := none_of rfl
theorem supplySettled : Statement .supplySettled := none_of rfl
theorem nrstLow : Statement .nrstLow := none_of rfl
theorem nrstHigh : Statement .nrstHigh := none_of rfl
theorem encPulse : Statement .encPulse := none_of rfl
theorem idxIndex : Statement .idxIndex := none_of rfl
theorem stallTimerExpiry : Statement .stallTimerExpiry := none_of rfl
theorem boostTimerExpiry (output : Output) : Statement (.boostTimerExpiry output) := none_of rfl
theorem maxOnTimerExpiry (output : Output) : Statement (.maxOnTimerExpiry output) := none_of rfl
theorem recoverTimerExpiry (output : Output) : Statement (.recoverTimerExpiry output) := none_of rfl
theorem deferTimerExpiry (output : Output) : Statement (.deferTimerExpiry output) := none_of rfl
theorem shotStartDue (output : Output) (start : Time) : Statement (.shotStartDue output start) := none_of rfl
theorem shotDropDue (output : Output) (start : Time) : Statement (.shotDropDue output start) := none_of rfl
theorem shotEndDue (output : Output) : Statement (.shotEndDue output) := none_of rfl
theorem faultSample (input : InputId) (level : Level) : Statement (.faultSample input level) := none_of rfl
theorem railSample (rail : Int) : Statement (.railSample rail) := none_of rfl
theorem restoreTimerExpiry (group : GroupId) : Statement (.restoreTimerExpiry group) := none_of rfl

end Sys2Proof.Laws.Frames
end

