-- ==== Sys2Proof/Tests/Slice0.lean ====
section
/-! SUPPORT. The model's own tests: the form checks, the link's encodings against the manual's figures, one step of a
command on a small state, and for each obligation's hypotheses states and operands that meet them. -/

namespace Sys2Proof.Tests

open Sys2Proof Sys2Proof.Machine

/-! ## Form checks -/

/-- The longest body a frame carries. -/
def longest : List Byte := List.replicate 240 0
/-- One byte too many. -/
def tooLong : List Byte := List.replicate 241 0

/-- The orders of the link, the modes and the drive channels, with a body. -/
def linkOrders (b : List Byte) : List Instr :=
  [.ident 0 b, .status 0 b, .time 0 b, .setLink 0 b, .reset 0 b, .start 0 b, .stop 0 b, .pause 0 b, .resume 0 b,
    .setProfile 0 b, .channel 0 b, .manual 0 b]

/-- The orders of the shots and the cam tables. -/
def shotOrders (b : List Byte) : List Instr :=
  [.shot 0 b, .shots 0 b, .cancel 0 b, .queueRead 0 b, .setAngle 0 b, .setCycle 0 b, .camPut 0 b, .camDrop 0 b,
    .camClear 0 b, .camCopy 0 b, .camCommit 0 b, .camAbort 0 b, .camRead 0 b]

/-- The orders of the interlock sets and the trip groups. -/
def tripOrders (b : List Byte) : List Instr :=
  [.setIset 0 b, .isetRead 0 b, .setConflict 0 b, .conflictRead 0 b, .setFaultin 0 b, .setRail 0 b, .setTgroup 0 b,
    .trip 0 b, .release 0 b, .tripRead 0 b]

/-- Every order, with a body. -/
def orders (b : List Byte) : List Instr := linkOrders b ++ shotOrders b ++ tripOrders b

theorem test_longest_body_wellFormed : (orders longest).all (fun i => i.wellFormed) = true := by decide +kernel
theorem test_long_body_refused : (orders tooLong).all (fun i => !i.wellFormed) = true := by decide +kernel
theorem test_unknown_long_body_refused : Instr.wellFormed (.unknownOrder 0 0x7F tooLong) = false := by decide +kernel
theorem test_unknown_known_kind_refused : Instr.wellFormed (.unknownOrder 0 0x30 []) = false := by decide +kernel
theorem test_unknown_wellFormed : Instr.wellFormed (.unknownOrder 0 0x7F longest) = true := by decide +kernel

/-! ## Encodings -/

/-- R168: the nine bytes of the digits 1 to 9. -/
theorem test_crc_check_value :
    crc16 [0x31, 0x32, 0x33, 0x34, 0x35, 0x36, 0x37, 0x38, 0x39] = 0x29B1#16 := by decide +kernel

/-- Every frame of an order is found in its bytes: here CAM_ABORT with SEQ 5. -/
theorem test_scan_finds_frame : scan false (OrderFrame.bytes ⟨5, 0x47, []⟩) = ([⟨5, 0x47, []⟩], []) := by decide +kernel

/-- A frame behind a false start byte is found when the false candidate is discarded. -/
theorem test_scan_rescans : scan false (0x5A :: 0x01 :: OrderFrame.bytes ⟨5, 0x47, []⟩) = ([⟨5, 0x47, []⟩], []) := by
  decide +kernel

theorem test_kind_of_order : orderCommand ⟨9, 0x30, [1]⟩ = .shot 9 [1] := by decide +kernel

/-! ## States for tests -/

/-- The state a command leaves. -/
def got (o : Host.Outcome State Fault Refusal) : State :=
  match o with
  | .next s => s
  | _ => State.reset

/-- In RUN. -/
def running : State := { State.reset with mode := .run }
/-- In RUN with one output's profile and channel. -/
def withChan (p : Profile) (c : Channel) : State := (running.setProfile 3 p).setChan 3 c
/-- A profile of a source. -/
def prof (src : Source) : Profile := { Profile.afterReset with source := src }
/-- A channel in a state. -/
def chan (st : ChannelState) : Channel := { Channel.afterReset with state := st }
/-- A tracker with L 360 in a state, with a count. -/
def trk (st : TrackerState) (n : Nat) : Tracker :=
  { cycleLength := 360, tolerance := 2, stallTimeout := 100, state := st, pulses := n, position := min n 359,
    cycle := 7, stallTimer := none }
/-- In IDLE with a tracker. -/
def tracked (t : Tracker) : State := { State.reset with tracker := t }
/-- An entry of 100 us that starts at a time. -/
def entry (start : Time) (st : EntryState) : Entry :=
  { tag := 0x1234, start := start, duration := 100, grace := 50, report := true, state := st }
/-- A window of O3. -/
def window (on off : Nat) : Window := { output := 3, onAngle := on, offAngle := off, divisor := 1, phase := 0 }
/-- A table with one window in slot 0. -/
def table (w : Window) : CamTable := wr (Vector.replicate 96 none) 0 (some w)
/-- A shot of 100 us on O3, start kind and report flag as the flags say. -/
def shotOf (flags : Byte) (start : Time) (duration : Nat) : ShotFields :=
  { output := 3, flags := flags, tag := 0x1234, start := start, duration := duration, grace := 50 }

/-! ## One step of a command -/

theorem test_setAngle_accepted :
    (got (exec (.setAngle 0 (setAngleBody ⟨360, 2, 100⟩)) State.reset)).tracker =
      { cycleLength := 360, tolerance := 2, stallTimeout := 100, state := .unsynced, pulses := 0, position := 0,
        cycle := 0, stallTimer := none } := by decide +kernel

theorem test_setCycle_stores : (got (exec (.setCycle 0 [1, 2, 0, 0]) State.reset)).tracker.cycle = 0x201 := by
  decide +kernel

theorem test_first_index : (got (exec .idxIndex (tracked (trk .unsynced 0)))).tracker.state = .verifying := by
  decide +kernel

theorem test_turn_verified :
    let t := (got (exec .idxIndex (tracked { trk .verifying 360 with position := 0 }))).tracker
    t.state = .synced ∧ t.cycle = 8 ∧ t.pulses = 0 ∧ t.stallTimer = some 100000 := by decide +kernel

theorem test_pulse_saturates :
    let t := (got (exec .encPulse (tracked (trk .synced 359)))).tracker
    t.pulses = 360 ∧ t.position = 359 := by decide +kernel

theorem test_index_missing : (got (exec .encPulse (tracked (trk .synced 362)))).tracker.state = .unsynced := by
  decide +kernel

theorem test_stall :
    (got (exec .stallTimerExpiry (tracked { trk .synced 120 with stallTimer := some 0 }))).tracker.state = .stalled := by
  decide +kernel

theorem test_motion :
    let t := (got (exec .encPulse (tracked (trk .stalled 120)))).tracker
    t.state = .synced ∧ t.position = 121 := by decide +kernel

theorem test_start_opens_channels :
    ((got (exec (.start 0 []) State.reset)).chan 0).state = .off := by decide +kernel

theorem test_pause_inhibits : ((got (exec (.pause 0 []) (withChan (prof .manual) (chan .off)))).chan 3).state = .inhibited := by
  decide +kernel

theorem test_manual_drives :
    let s := got (exec (.manual 0 [3, 1]) (withChan { prof .manual with boost := 500 } (chan .off)))
    (s.chan 3).state = .boost ∧ (s.chan 3).boostTimer = some 500 := by decide +kernel

theorem test_manual_inhibited_refused :
    (got (exec (.manual 4 [3, 1]) (withChan (prof .manual) (chan .inhibited)))).link.replies =
      [⟨4, 0xA2, .code .inhibited, .nothing⟩] := by decide +kernel

theorem test_shot_waits :
    let s := got (exec (.shot 0 (shotBody (shotOf 3 1000 100))) (withChan (prof .shot) (chan .off)))
    s.queue 3 = [{ entry 1000 .waiting with report := true }] ∧ s.poolUse = 1 := by decide +kernel

theorem test_shot_now_drives :
    let s := got (exec (.shot 0 (shotBody (shotOf 1 0 100))) (withChan (prof .shot) (chan .off)))
    (s.chan 3).state = .hold ∧ (s.chan 3).demand = some (.shot 0x1234) := by decide +kernel

theorem test_shot_due_fires :
    let s := (withChan (prof .shot) (chan .off)).setQueue 3 [entry 0 .waiting]
    ((got (exec (.shotStartDue 3 0) s)).queue 3) = [entry 0 (.active 0)] := by decide +kernel

theorem test_shot_end_posts :
    let s := (withChan { prof .shot with minOff := 40 }
      { chan .hold with demand := some (.shot 0x1234) }).setQueue 3 [entry 0 (.active 0)]
    let t := got (exec (.shotEndDue 3) { s with now := 100 })
    t.queue 3 = [] ∧ (t.chan 3).state = .recover ∧ (t.chan 3).recoverTimer = some 140 ∧
      t.notices.waiting = [⟨1, .shotEnd 3 0x1234 .done 0 (some 0) 100⟩] := by decide +kernel

theorem test_shot_drop :
    let s := (withChan (prof .shot) (chan .recover)).setQueue 3 [entry 0 .late]
    (got (exec (.shotDropDue 3 0) { s with now := 51 })).queue 3 = [] := by decide +kernel

theorem test_cancel_counts :
    let s := (withChan (prof .shot) (chan .off)).setQueue 3 [entry 1000 .waiting, entry 2000 .waiting]
    let t := got (exec (.cancel 0 [3, 0, 0x34, 0x12]) s)
    t.queue 3 = [] ∧ t.link.replies = [⟨0, 0xB2, .cancelled 2, .nothing⟩] := by decide +kernel

theorem test_camPut_lowest_slot :
    let s := (tracked (trk .unsynced 0)).setProfile 3 (prof .cam)
    rd (got (exec (.camPut 0 (camPutBody (window 10 20))) s)).cam.shadow 0 = some (window 10 20) := by decide +kernel

theorem test_camPut_overlap :
    let s := ((tracked (trk .unsynced 0)).setProfile 3 (prof .cam)).setShadow (table (window 10 20))
    (got (exec (.camPut 0 (camPutBody (window 19 30))) s)).link.replies = [⟨0, 0xC2, .windowOverlap 0, .nothing⟩] := by
  decide +kernel

theorem test_pulse_enters_window :
    let s := withChan (prof .cam) (chan .off)
    let s := { s with tracker := trk .synced 9, cam := { s.cam with active := table (window 10 20) } }
    let t := got (exec .encPulse s)
    (t.chan 3).state = .hold ∧ (t.chan 3).demand = some (.cam 0) ∧ t.pass 3 = some ⟨0, .plain, 7⟩ := by decide +kernel

theorem test_pulse_leaves_window :
    let s := withChan (prof .cam) { chan .hold with demand := some (.cam 0) }
    let s := ({ s with tracker := trk .synced 19, cam := { s.cam with active := table (window 10 20) } }).setPass 3
      (some ⟨0, .plain, 7⟩)
    let t := got (exec .encPulse s)
    (t.chan 3).state = .off ∧ t.pass 3 = none := by decide +kernel

theorem test_fault_sample_at_depth :
    let s := State.reset.setFaultIn 0 { FaultIn.afterReset with run := 7 }
    let t := got (exec (.faultSample 0 .high) { s with now := 10 })
    (t.faultIn 0).filtered = .high ∧ (t.faultIn 0).nextSample = 20 := by decide +kernel

theorem test_trip_and_release :
    let s := got (exec (.trip 0 [1]) State.reset)
    (s.group 0).state = .tripped ∧ ((got (exec (.release 0 [0]) s)).group 0).state = .normal := by decide +kernel

theorem test_rail_low :
    let s := { State.reset with rail := { RailMonitor.afterReset with enable := true, low := 200, depth := 1 } }
    (got (exec (.railSample 199) s)).rail.lowActive = true ∧ (got (exec (.railSample 200) s)).rail.lowActive = false := by
  decide +kernel

/-- An order is taken at once when its frame's last byte arrives (R152); with eight replies waiting it waits in the inbox,
and is taken when the end of a frame lets a reply leave. -/
theorem test_frame_arrives :
    let bytes := OrderFrame.bytes ⟨5, 0x47, []⟩
    let s (replies : List Reply) : State :=
      { State.reset with link := { State.reset.link with candidate := bytes.dropLast, replies := replies } }
    let arrived (replies : List Reply) := got (exec (.byteArrival (.data (bytes.getLast (by decide +kernel)))) (s replies))
    let full := arrived (List.replicate 8 ⟨1, 0x82, .code .ok, .nothing⟩)
    (arrived []).link.inbox = [] ∧ (arrived []).link.replies = [⟨5, 0xC7, .code .notPending, .nothing⟩] ∧
    full.link.inbox = [⟨5, 0x47, []⟩] ∧ (got (exec .frameSent full)).link.inbox = [] ∧
    (got (exec .frameSent full)).link.replies.length = 8 := by decide +kernel

/-- The decoder takes all that waits, oldest first, and stops at a RESET. -/
theorem test_settle :
    let s (fs : List OrderFrame) : State := { State.reset with link := { State.reset.link with inbox := fs } }
    (s [⟨1, 0x47, []⟩, ⟨2, 0x10, []⟩]).settle.link.inbox = [] ∧ (s [⟨1, 0x47, []⟩, ⟨2, 0x10, []⟩]).settle.mode = .run ∧
    (s [⟨1, 0x05, []⟩, ⟨2, 0x10, []⟩]).settle.link.inbox = [⟨2, 0x10, []⟩] := by decide +kernel

theorem test_reset_ends_with_started :
    let t := got (exec .nrstHigh (got (exec .nrstLow running)))
    t.resetCause = .line ∧ t.mode = .idle ∧ t.link.tx.map (fun x => x.frame.body) = some [0, 0, 1] := by decide +kernel

theorem test_idle_takes_inbox :
    let s := { State.reset with link := { State.reset.link with inbox := [⟨1, 0x02, []⟩] } }
    (got (step s)).pending = [.status 1 []] := by decide +kernel

/-! ## Hypotheses that are met: for each obligation, each clause's at a state and operands of its own -/

/-- In a reset, nRST low. -/
def held : State := { State.reset with pins := { State.reset.pins with nrst := .low } }
/-- In a reset, the supply failing. -/
def unsettled : State := { State.reset with pins := { State.reset.pins with supplySettled := false } }
/-- With a frame in the inbox. -/
def inboxed (f : OrderFrame) : State := { State.reset with link := { State.reset.link with inbox := [f] } }
/-- With a transmitter, replies and notices. -/
def sending (tx : Option Transmission) (rs : List Reply) (ns : List Notice) (streak : Nat) : State :=
  { State.reset with
    link := { State.reset.link with tx := tx, replies := rs, streak := streak }
    notices := { waiting := ns, next := 7 } }
/-- A transmission with what its last byte sets off. -/
def sent (b : Bound) : Option Transmission := some ⟨startedFrame, b, 0⟩
/-- A reply. -/
def reply : Reply := ⟨1, 0x82, .code .ok, .nothing⟩
/-- A notice. -/
def notice : Notice := ⟨6, .manualDropped 3 none 0⟩
/-- The decoder takes this frame right after reset. -/
def taken (kind : Byte) (body : List Byte) : Bool := State.reset.takes ⟨1, kind, body⟩

theorem test_met_IdleStepsGoOn :
    (held.pending = [] ∧ held.inReset = true) ∧
    ((inboxed ⟨1, 2, []⟩).pending = [] ∧ (inboxed ⟨1, 2, []⟩).decoderReady = true) ∧
    (State.reset.inReset = false ∧ State.reset.link.inbox = []) ∧
    (let s := { inboxed ⟨1, 2, []⟩ with link := { (inboxed ⟨1, 2, []⟩).link with halted := true } }
     s.inReset = false ∧ s.decoderReady = false) := by decide +kernel

/-- The decoder takes no order in a reset, with eight replies waiting, or where the inbox's oldest frame is another. -/
theorem test_met_IdleStepsGoOn_takes :
    held.takes ⟨1, 2, []⟩ = false ∧ unsettled.takes ⟨1, 2, []⟩ = false ∧
    (sending none (List.replicate 8 reply) [] 0).decoderReady = false ∧
    (sending none (List.replicate 7 reply) [] 0).decoderReady = true ∧
    (inboxed ⟨1, 2, []⟩).takes ⟨2, 2, []⟩ = false ∧ (inboxed ⟨1, 2, []⟩).takes ⟨1, 2, []⟩ = true := by decide +kernel

/-- An idle microsecond raises the boost timer that it brings due. -/
theorem test_idle_raises_due_timer :
    let s := withChan (prof .manual) { chan .boost with demand := some .manual, boostTimer := some 1 }
    (s.dueEvents.contains (.boostTimerExpiry 3)) = false ∧ (step s |> got).pending = [.boostTimerExpiry 3] := by
  decide +kernel

/-- A rail sample that changes no source is taken before a due timer, but waits for the world's order beside the end of a
frame, whose step may take a STATUS (log 4). -/
theorem test_tick_orders_samples :
    let m : RailMonitor := { RailMonitor.afterReset with enable := true, nextSample := 1 }
    let s (progress : Nat) : State :=
      { State.reset with
        rail := m, choices := [1, 1]
        tracker := { State.reset.tracker with stallTimer := some 1 }
        link := { State.reset.link with tx := some ⟨startedFrame, .nothing, progress⟩ } }
    (s 0).tick.pending = [.railSample 0, .stallTimerExpiry] ∧ (s 0).tick.choices = [1, 1] ∧
    (s startedFrame.lineTime).tick.pending = [.stallTimerExpiry, .railSample 0, .frameSent] := by decide +kernel

theorem test_met_ResetHoldsEverything : held.inReset = true ∧ Instr.encPulse ≠ .nrstLow := by decide +kernel

theorem test_met_ResetsBeginAndEnd :
    State.reset.pins.nrst = .high ∧ held.pins.nrst = .low ∧ held.pins.supplySettled = true ∧ held.inReset = true ∧
    unsettled.pins.supplySettled = false ∧ unsettled.pins.nrst = .high ∧
    ({ unsettled with pins := { unsettled.pins with nrst := .low } } : State).pins.supplySettled = false := by
  decide +kernel

theorem test_met_ResetOrderResets :
    taken 0x05 [] = true ∧ (sending (sent .reset) [] [] 0).inReset = false ∧
    (sending (sent .reset) [] [] 0).link.tx = sent .reset := by decide +kernel

theorem test_met_RepliesAndNoticesPlaced :
    (sending (sent .nothing) (List.replicate 7 reply) [] 0).link.replies.length < Config.replyFrames ∧
    (sending (sent .nothing) [] [] 0).link.tx.isSome = true ∧ (sending none [] [] 0).link.tx = none ∧
    (sending (sent .nothing) [] (List.replicate 31 notice) 0).notices.waiting.length < 32 ∧
    (sending (sent .nothing) [] (List.replicate 32 notice) 0).notices.waiting.length = 32 ∧
    8 ≤ (sending (sent .nothing) (List.replicate 8 reply) [] 0).link.replies.length ∧
    (sending none [] [] 0).link.replies = [] ∧ (sending none [] [] 0).notices.waiting = [] := by decide +kernel

theorem test_met_ArbiterChoosesWhenFree :
    (sending none [] [] 4).link.tx = none ∧ (sending none [reply] [] 4).link.replies = [reply] ∧
    (sending none [reply] [notice] 3).link.streak < 4 ∧ 4 ≤ (sending none [reply] [notice] 4).link.streak ∧
    (sending none [] [notice] 0).notices.waiting = [notice] ∧
    (sending (sent (.baud .b115200)) [] [] 0).link.baud = .b115200 ∧
    (sending (sent (.baud .b921600)) [] [] 0).link.baud ≠ .b921600 ∧
    (sending (sent .nothing) [] [] 0).inReset = false := by decide +kernel

theorem test_met_DecoderRefuses :
    (taken 0x20 (List.replicate 11 0) = true ∧ orderBodyLength 0x20 = some 12) ∧
    (taken 0x10 [0] = true ∧ orderBodyLength 0x10 = some 0) ∧
    taken 0x31 [] = true ∧ taken 0x31 [0] = true ∧ taken 0x31 [17] = true ∧ taken 0x31 [1] = true ∧
    taken 0x31 (16 :: List.replicate 223 0) = true ∧
    taken 0x21 [16] = true ∧ taken 0x51 [8] = true ∧ taken 0x52 [2] = true ∧ taken 0x63 [16] = true ∧
    taken 0x64 [4] = true ∧ taken 0x65 [4] = true ∧ taken 0x22 [15, 2] = true ∧ taken 0x33 [15, 48] = true ∧
    taken 0x48 [2, 0] = true ∧ taken 0x32 [16, 0, 0, 0] = true ∧ taken 0x32 [0xFF, 2, 0, 0] = true ∧
    taken 0x50 [7, 17, 0, 0] = true ∧ taken 0x60 [3, 1, 1, 0] = true ∧ taken 0x04 [4, 0, 0] = true ∧
    taken 0x04 [0, 9, 0] = true := by decide +kernel

/-- Bodies with one field each just out of its range. -/
theorem test_met_DecoderRefuses_records :
    taken 0x20 [15, 1, 0x11, 0x27, 1, 0, 0, 0, 0, 0xFF, 0, 0] = true ∧ 10000 < ((0x27 : Byte) ++ (0x11 : Byte)).toNat ∧
    taken 0x20 [15, 3, 0, 0, 101, 0, 0, 0x60, 0xEA, 8, 15, 1] = true ∧ taken 0x40 [7, 0, 15, 0, 0] = true ∧
    taken 0x40 [0, 0, 16, 0, 0] = true ∧ taken 0x42 [15, 0, 0, 0, 0, 8, 8] = true ∧
    taken 0x42 [15, 0, 0, 0, 0, 9, 0] = true ∧ taken 0x61 [1, 0x59, 2, 0x58, 2, 1] = true ∧
    600 < ((2 : Byte) ++ (0x59 : Byte)).toNat ∧ taken 0x61 [0, 0, 0, 0, 0, 0] = true ∧
    (taken 0x62 [3, 0x80, 1, 0, 0, 1] = true ∧ (0x80 : Byte).getLsbD 7 = true) ∧ taken 0x62 [3, 0, 1, 0, 0, 2] = true := by
  decide +kernel

theorem test_met_DecoderRefuses_unknown : knownKinds.contains 0x66 = false ∧ taken 0x66 [] = true := by decide +kernel

theorem test_met_FramesAreFound :
    Instr.wellFormed (.shot 1 longest) = true ∧ commandFrame (.shot 1 longest) = some ⟨1, 0x30, longest⟩ := by
  decide +kernel

/-- With a candidate held. -/
def candidate (bs : List Byte) : State := { State.reset with link := { State.reset.link with candidate := bs } }

theorem test_met_FramerTakesBytes :
    State.reset.link.candidate = [] ∧ State.reset.link.gapTimer = none ∧
    (candidate [0x5A]).link.candidate = [0x5A] ∧
    (candidate [0x5A, 2, 1, 0x47, 0x9F]).link.candidate ++ [(OrderFrame.bytes ⟨1, 0x47, []⟩).getLastD 0] =
      [0x5A, 2, 1, 0x47, 0x9F, (OrderFrame.bytes ⟨1, 0x47, []⟩).getLastD 0] ∧
    (OrderFrame.bytes ⟨1, 0x47, []⟩).dropLast ++ [(OrderFrame.bytes ⟨1, 0x47, []⟩).getLastD 0] =
      OrderFrame.bytes ⟨1, 0x47, []⟩ ∧
    timerDue 2000 (some 2000) = true ∧ timerDue 1999 (some 2000) = false ∧ judgeCandidate [2, 1] = .incomplete ∧
    (∀ b ∈ [(2 : Byte), 1], b ≠ 0x5A) ∧
    ((candidate [0x5A, 242]).link.candidate = 0x5A :: 242 :: [] ∧ ([] : List Byte).length + 1 < (242 : Byte).toNat + 2) ∧
    ((1 : Byte).toNat < 2 ∧ 242 < (243 : Byte).toNat) ∧ [(0 : Byte), 0, 0].length < (2 : Byte).toNat + 2 ∧
    ([(1 : Byte), 0x47].length = (2 : Byte).toNat ∧ crc16 [2, 1, 0x47] ≠ (0 : Byte) ++ (0 : Byte)) ∧
    OrderFrame.wellFormed ⟨1, 0x47, []⟩ = true := by decide +kernel

theorem test_met_FramesAdmitted :
    let f : OrderFrame := ⟨1, 0x47, []⟩
    State.reset.link.timeout = 0 ∧
    ([⟨1, f.crc, 0xC7, .code .ok⟩].find? fun (e : CacheEntry) => e.seq = f.seq && e.crc = f.crc).isSome = true ∧
    (∃ g ∈ (inboxed f).link.inbox, g.seq = f.seq ∧ g.crc = f.crc) ∧
    (∀ g ∈ (inboxed ⟨2, 0x47, []⟩).link.inbox, ¬ (g.seq = f.seq ∧ g.crc = f.crc)) ∧
    4 ≤ (List.replicate 4 (⟨2, 0x47, []⟩ : OrderFrame)).length ∧
    (∀ g ∈ List.replicate 4 (⟨2, 0x47, []⟩ : OrderFrame), ¬ (g.seq = f.seq ∧ g.crc = f.crc)) ∧
    (inboxed ⟨2, 0x47, []⟩).link.inbox.length < 4 := by decide +kernel

theorem test_met_LinkTimerRuns :
    let on : State := { State.reset with link := { State.reset.link with
      timeout := 10, timer := some 0, linkActive := true } }
    on.link.timeout ≠ 0 ∧ timerDue on.now on.link.timer = true ∧
    (taken 0x04 [0, 0, 0] = true ∧ (decodeSetLink [0, 0, 0]).toOption = some (.b115200, 0)) ∧
    (taken 0x04 [3, 10, 0] = true ∧ (decodeSetLink [3, 10, 0]).toOption = some (.b921600, 10)) ∧
    (on.takes ⟨1, 0x04, [0, 0, 0]⟩ = true ∧ on.link.linkActive = true) ∧
    ({ on.link with linkActive := false } : Link).linkActive = false := by decide +kernel

theorem test_met_StateReadOut :
    taken 0x01 [] = true ∧ taken 0x02 [] = true ∧ taken 0x03 [] = true ∧
    (taken 0x21 [15] = true ∧ (decodeOutput [15]).toOption = some 15) ∧
    (taken 0x33 [15, 47] = true ∧ (decodeQueueRead [15, 47]).toOption = some (15, 47)) ∧
    (taken 0x51 [7] = true ∧ (decodeIsetRead [7]).toOption = some 7) ∧
    (taken 0x65 [3] = true ∧ (decodeGroup [3]).toOption = some 3) := by decide +kernel

/-- The time left on a timer, about its expiry and across the end of the time's range. -/
theorem test_met_StateReadOut_timeLeft :
    due 7 7 = true ∧ due 7 8 = false ∧ due 0xFFFFFFFF 1 = false ∧ timeLeft 7 (some 7) = none ∧
    timeLeft 7 (some 8) = some 1 ∧ timeLeft 0xFFFFFFFF (some 1) = some 2 := by decide +kernel

theorem test_met_CamReadOut :
    let s : State := { State.reset with cam := { State.reset.cam with active := table (window 10 20), shadow := table (window 10 20) } }
    taken 0x48 [0, 96] = true ∧ (decodeCamRead [0, 96]).toOption = some (.active, 96) ∧
    s.takes ⟨1, 0x48, [0, 0]⟩ = true ∧ rd (s.camTable .active) 0 = some (window 10 20) ∧
    rd (s.camTable .shadow) 0 = some (window 10 20) ∧ rd (s.camTable .active) 95 = none ∧ s.pass 3 = none ∧
    (s.setPass 3 (some ⟨0, .plain, 0⟩)).pass 3 = some ⟨0, .plain, 0⟩ ∧
    (s.setPass 3 (some ⟨1, .plain, 0⟩)).pass 3 = some ⟨1, .plain, 0⟩ := by decide +kernel

theorem test_met_ModeOrdersTaken :
    let paused : State := { State.reset with mode := .paused }
    (taken 0x10 [] = true ∧ State.reset.mode = .idle) ∧ (running.takes ⟨1, 0x10, []⟩ = true ∧ running.mode ≠ .idle) ∧
    (paused.takes ⟨1, 0x13, []⟩ = true ∧ paused.mode = .paused) ∧ taken 0x13 [] = true ∧
    (running.takes ⟨1, 0x12, []⟩ = true ∧ running.mode = .run) ∧ taken 0x12 [] = true ∧
    running.takes ⟨1, 0x11, []⟩ = true ∧ taken 0x11 [] = true := by decide +kernel

theorem test_met_ModeChangeInhibits : DriveRight State.reset := by decide +kernel

theorem test_met_ModeChangeInhibits_commit :
    let s : State := { running with cam := { running.cam with commitPending := true } }
    s.cam.commitPending = true ∧ running.cam.commitPending = false ∧
    (s.changeMode .paused).notices.waiting = [⟨1, .camCommitted .mode 0 0⟩] := by decide +kernel

theorem test_met_ModeChangeInhibits_channel :
    let s (c : Channel) := withChan { prof .shot with iset := some 0 } c
    let q := (s (chan .off)).setQueue 3 [entry 0 .deferred, entry 200 .waiting]
    State.reset.inhibitCondition 3 = true ∧ running.inhibitCondition 3 = false ∧
    (running.chan 3).state = .inhibited ∧ ((s (chan .off)).chan 3).state ≠ .inhibited ∧
    ((s (chan .queued)).chan 3).state = .queued ∧ ((s (chan .queued)).profile 3).iset = some 0 ∧
    ((s (chan .hold)).chan 3).driving = true ∧ ((s (chan .recover)).chan 3).state = .recover ∧
    ((s (chan .overtime)).chan 3).state = .overtime ∧
    ((s { chan .inhibited with recoverTimer := some 1 }).chan 3).recoverTimer ≠ none ∧
    ((s (chan .inhibited)).chan 3).recoverTimer = none ∧ (running.profile 3).source ≠ .shot ∧
    ((s (chan .inhibited)).profile 3).source = .shot ∧
    q.queue 3 = [entry 0 .deferred, entry 200 .waiting] ∧ (entry 0 .deferred).served = true := by decide +kernel

theorem test_met_ProfileSetAndRecoverMoved :
    let body := setProfileBody 3 (prof .cam)
    let manual := setProfileBody 3 (prof .manual)
    let used : State := { tracked (trk .unsynced 0) with cam := { State.reset.cam with active := table (window 1 2) } }
    (running.takes ⟨1, 0x20, body⟩ = true ∧ (decodeSetProfile body).toOption = some (3, prof .cam)) ∧
    (taken 0x20 body = true ∧ State.reset.tracker.cycleLength = 0) ∧
    ((used.setProfile 3 (prof .cam)).takes ⟨1, 0x20, manual⟩ = true ∧
      (decodeSetProfile manual).toOption = some (3, prof .manual) ∧ rd used.cam.active 0 = some (window 1 2)) ∧
    (taken 0x20 manual = true ∧ (State.reset.profile 3).source ≠ .cam) ∧
    (due 100 (90 + BitVec.ofNat 32 10) = true ∧ due 100 (90 + BitVec.ofNat 32 11) = false ∧
      (100 - (90 : Time)).toNat < 11 ∧ 10 ≤ (100 - (90 : Time)).toNat) := by decide +kernel

theorem test_met_ManualMovesDemand :
    let s (c : Channel) := withChan (prof .manual) c
    (taken 0x22 [3, 1] = true ∧ (decodeManual [3, 1]).toOption = some (3, true) ∧ State.reset.mode ≠ .run) ∧
    (running.takes ⟨1, 0x22, [3, 1]⟩ = true ∧ (running.profile 3).source ≠ .manual) ∧
    ((s (chan .inhibited)).takes ⟨1, 0x22, [3, 1]⟩ = true ∧ ((s (chan .inhibited)).chan 3).state = .inhibited) ∧
    (decodeManual [3, 0]).toOption = some (3, false) ∧
    (((s (chan .off)).chan 3).manualDemand = false ∧ ((s (chan .off)).profile 3).iset = none) ∧
    (((s (chan .recover)).chan 3).state = .recover ∧ (s (chan .recover)).mode = .run) ∧
    ((s { chan .hold with manualDemand := true }).chan 3).driving = true ∧
    ((s { chan .overtime with manualDemand := true, recoverTimer := some 5 }).chan 3).recoverTimer ≠ none ∧
    ((s { chan .overtime with manualDemand := true }).chan 3).recoverTimer = none ∧
    ((s { chan .recover with manualDemand := true }).chan 3).manualDemand = true := by decide +kernel

/-- A running state whose set 0 has an occupant and a defer limit, with O3 a member. -/
def fullSet (limit : Nat) : State :=
  (withChan { prof .manual with iset := some 0 } (chan .off)).setIset 0 ⟨1, limit, [5], []⟩

theorem test_met_ManualMovesDemand_set :
    let room := (fullSet 9).setIset 0 ⟨2, 9, [5], []⟩
    let s (c : Channel) := (fullSet 9).setChan 3 c
    ((fullSet 9).takes ⟨1, 0x22, [3, 1]⟩ = true ∧ (fullSet 9).mode = .run ∧ ((fullSet 9).profile 3).source = .manual ∧
      ((fullSet 9).profile 3).iset = some 0 ∧ ((fullSet 9).chan 3).state = .off) ∧
    (room.iset 0).occupants.length < (room.iset 0).capacity ∧
    (((fullSet 9).iset 0).capacity ≤ ((fullSet 9).iset 0).occupants.length ∧ ((fullSet 9).iset 0).deferLimit ≠ 0) ∧
    ((fullSet 0).iset 0).deferLimit = 0 ∧ ((s { chan .boost with manualDemand := true }).chan 3).driving = true ∧
    ((s { chan .queued with manualDemand := true }).chan 3).manualDemand = true := by decide +kernel

theorem test_met_SetAnswersAndCaptures :
    ((fullSet 9).profile 3).iset = some 0 ∧ ((fullSet 9).iset 0).capacity ≤ ((fullSet 9).iset 0).occupants.length ∧
    ((fullSet 9).iset 0).deferLimit ≠ 0 ∧ ((fullSet 0).iset 0).deferLimit = 0 ∧
    (((fullSet 0).setIset 0 ⟨2, 0, [5], []⟩).iset 0).occupants.length < 2 ∧ State.reset.conflict = none ∧
    State.reset.conflictPolicy = .keepFirst := by decide +kernel

theorem test_met_SetAnswersAndCaptures_order :
    ([] : List Output).Pairwise (· < ·) ∧ ([2, 5] : List Output).Pairwise (· < ·) ∧
    insertOutput 3 [2, 5] = [2, 3, 5] ∧ insertOutput 5 [2, 5] = [2, 5] := by decide +kernel

theorem test_met_DriveBeginsAndPlacesPass :
    let s (st : EntryState) :=
      (withChan (prof .shot) { chan .off with demand := some (.shot 0x1234) }).setQueue 3 [entry 0 st]
    ((s .deferred).chan 3).demand = some (.shot 0x1234) ∧ (s .deferred).queue 3 = [entry 0 .deferred] ∧
    (∀ e ∈ ((s .late).queue 3).head?, e.state ≠ .deferred) ∧
    (State.reset.chan 3).demand = none ∧ (State.reset.profile 3).iset = none ∧
    ((fullSet 9).iset 0).grants = [] ∧ (((fullSet 9).setIset 0 ⟨1, 9, [5], [3]⟩).iset 0).grants = [3] := by
  decide +kernel

theorem test_met_ChannelTimersTaken :
    let s (c : Channel) := (fullSet 9).setChan 3 c
    (fullSet 9).inReset = false ∧ timerDue 0 (some 0) = true ∧ timerDue 0 (some 1) = false ∧
    ((s { chan .boost with boostTimer := some 0 }).chan 3).state = .boost ∧
    ((s { chan .hold with maxOnTimer := some 0 }).chan 3).driving = true ∧
    ((s { chan .recover with recoverTimer := some 0 }).chan 3).remembered = none ∧
    ((s { chan .recover with recoverTimer := some 0 }).profile 3).source ≠ .shot ∧
    ((s { chan .recover with recoverTimer := some 0, remembered := some .manual }).chan 3).remembered = some .manual ∧
    ((s { chan .overtime with recoverTimer := some 0 }).chan 3).state ≠ .recover ∧
    (let q := s { chan .queued with deferTimer := some 0, demand := some .manual }
     timerDue q.now (q.chan 3).deferTimer = true ∧ (q.profile 3).iset = some 0 ∧ (q.chan 3).demand = some .manual) ∧
    (let q := (s { chan .queued with deferTimer := some 0, demand := some (.cam 0) }).setPass 3 (some ⟨0, .plain, 0⟩)
     (q.chan 3).demand = some (.cam 0) ∧ q.pass 3 = some ⟨0, .plain, 0⟩) ∧
    (let q := ((s { chan .queued with deferTimer := some 0, demand := some (.shot 0x1234) }).setProfile 3
        { prof .shot with iset := some 0 }).setQueue 3 [entry 0 .deferred]
     (q.chan 3).demand = some (.shot 0x1234) ∧ q.queue 3 = [entry 0 .deferred] ∧ (q.profile 3).source = .shot) ∧
    (withChan (prof .shot) { chan .recover with recoverTimer := some 0 }).profile 3 = prof .shot := by
  decide +kernel

theorem test_met_PinShowsChannel :
    State.reset.inReset = false ∧ ((withChan (prof .manual) (chan .boost)).chan 3).state = .boost ∧
    ((withChan (prof .manual) (chan .hold)).chan 3).state = .hold ∧ (State.reset.chan 3).state ≠ .hold := by
  decide +kernel

/-- Within its frame's bits TXD shows them, its first byte 0x5A from the low start bit on; past them it rests. -/
theorem test_met_PinShowsChannel_txd :
    let at_ (n : Nat) : State := sending (some ⟨startedFrame, .nothing, n * 1000000 + 999999⟩) [] [] 0
    (sending none [] [] 0).link.tx = none ∧ startedFrame.bytes[0]? = some 0x5A ∧
    10 * startedFrame.bytes.length ≤ ((at_ 1000).link.tx.map (·.progress)).getD 0 / 1000000 ∧
    ((List.range 10).map fun n => (at_ n).txdLevel) =
      [.low, .low, .high, .low, .high, .high, .low, .high, .low, .high] := by decide +kernel

/-- In RUN, O3 a SHOT output with a free channel. -/
def shooting : State := withChan (prof .shot) (chan .off)

/-- A start behind a served head of a queue that shares no moment with it passes the room and span checks. -/
theorem test_met_ShotChecked_room :
    let s := shooting.setQueue 3 [entry 0 (.active 0)]
    s.poolUse < 192 ∧ (s.queue 3).length < 48 ∧ fromNow s.now 0 < fromNow s.now 5000 ∧
    (∀ x ∈ s.queue 3, x.meets s.now (s.profile 3).minOff (spanOf s.now 5000 100 (s.profile 3).minOff) = false) ∧
    (s.checkRoom 3 5000 100).isNone = true := by decide +kernel

theorem test_met_ShotChecked :
    let b (flags : Byte) (start : Time) (d : Nat) := shotBody (shotOf flags start d)
    taken 0x30 (b 0 0 100) = true ∧ (decodeShot (b 0 0 100)).toOption = some (shotOf 0 0 100) ∧
    shooting.takes ⟨1, 0x30, b 4 0 100⟩ = true ∧ 4 ≤ (shotOf 4 0 100).flags.toNat ∧
    (running.profile 3).source ≠ .shot ∧ (shooting.profile 3).source = .shot ∧
    (decodeShot (b 0 0 9)).toOption = some (shotOf 0 0 9) ∧
    ((withChan { prof .shot with maxOn := 1 } (chan .off)).profile 3).maxOn * 1000 ≤ 1000 ∧
    60000000 < (shotOf 1 60000001 100).start.toNat ∧ (shotOf 1 60000001 100).flags.getLsbD 0 = true ∧
    (due 0 60000001 = false ∧ 60000000 < ((60000001 : Time) - 0).toNat) ∧
    (due 1000 949 = true ∧ 50 < ((1000 : Time) - 949).toNat) ∧ (due 1000 950 = true ∧ ((1000 : Time) - 950).toNat ≤ 50) ∧
    (shooting.checkFields (shotOf 1 5 100)).toOption = some 3 ∧
    (shooting.checkStart (shotOf 1 5 100)).toOption = some 5 ∧ shooting.poolUse < 192 ∧
    192 ≤ ((((shooting.setQueue 0 (List.replicate 48 (entry 0 .late))).setQueue 1
      (List.replicate 48 (entry 0 .late))).setQueue 2 (List.replicate 48 (entry 0 .late))).setQueue 3
        (List.replicate 48 (entry 0 .late))).poolUse ∧
    (shooting.setQueue 3 (List.replicate 48 (entry 9999 .waiting))).poolUse < 192 ∧
    (entry 0 .waiting).meets 0 0 (spanOf 0 99 100 0) = true ∧ (entry 0 .waiting).meets 0 0 (spanOf 0 100 100 0) = false ∧
    (entry 500 .deferred).served = true ∧ fromNow 0 300 ≤ fromNow 0 500 ∧
    (entry 500 .deferred).meets 0 0 (spanOf 0 300 100 0) = false := by decide +kernel

theorem test_met_ShotBooked :
    let body := shotBody (shotOf 3 5 100)
    shooting.takes ⟨1, 0x30, body⟩ = true ∧ (decodeShot body).toOption = some (shotOf 3 5 100) ∧
    shooting.mode ≠ .idle ∧ (shooting.checkFields (shotOf 3 5 100)).toOption = some 3 ∧
    (shooting.checkStart (shotOf 3 5 100)).toOption = some 5 ∧ shooting.checkRoom 3 5 100 = none ∧
    due shooting.now 5 = false ∧ (∀ x ∈ shooting.queue 3, 10 ≤ x.duration) ∧
    ((shooting.checkStart (shotOf 3 0 100)).toOption = some 0 ∧ due shooting.now 0 = true ∧
      shooting.channelFree 3 = true ∧ (shooting.profile 3).iset = none) ∧
    (withChan (prof .shot) (chan .recover)).channelFree 3 = false := by decide +kernel

/-- In RUN, O3 a SHOT output with a free channel and a set of one place, with an occupant or none. -/
def shootingSet (limit : Nat) (occupants : List Output) : State :=
  (withChan { prof .shot with iset := some 0 } (chan .off)).setIset 0 ⟨1, limit, occupants, []⟩

theorem test_met_ShotBooked_order :
    let before (x y : Entry) : Prop := fromNow 0 x.start + x.duration + (40 : Nat) ≤ fromNow 0 y.start
    [entry 0 (.active 5), entry 340 .waiting].Pairwise before ∧ 1 ≤ (entry 200 .waiting).duration ∧
    (∀ x ∈ [entry 0 (.active 60), entry 340 .waiting], x.meets 0 40 (spanOf 0 200 100 40) = false) ∧
    (entry 0 (.active 61)).meets 0 40 (spanOf 0 200 100 40) = true := by decide +kernel

theorem test_met_ShotBooked_due :
    let behind := { shooting with now := 300 }.setQueue 3 [entry 0 .late]
    let before := { shooting with now := 300 }.setQueue 3 [entry 400 .waiting]
    let e := entry 299 .late
    (insertEntry 300 e (behind.queue 3)).head? ≠ some e ∧ insertEntry 300 e (before.queue 3) = e :: [entry 400 .waiting] ∧
    before.checkRoom 3 299 100 = none ∧ due 300 299 = true ∧ before.channelFree 3 = true ∧
    ((shootingSet 0 []).profile 3).iset = some 0 ∧
    ((shootingSet 0 []).iset 0).occupants.length < ((shootingSet 0 []).iset 0).capacity ∧
    ((shootingSet 9 [5]).iset 0).capacity ≤ ((shootingSet 9 [5]).iset 0).occupants.length ∧
    ((shootingSet 9 [5]).iset 0).deferLimit ≠ 0 ∧ ((shootingSet 0 [5]).iset 0).deferLimit = 0 := by decide +kernel

theorem test_met_BatchBooked :
    let one := 1 :: shotBody (shotOf 3 5 100)
    let two := 2 :: (shotBody (shotOf 3 5 100) ++ shotBody (shotOf 3 9 100))
    taken 0x31 one = true ∧ (decodeShots one).toOption = some [shotOf 3 5 100] ∧ State.reset.mode = .idle ∧
    shooting.takes ⟨1, 0x31, one⟩ = true ∧ (shooting.book (shotOf 3 5 100)).toOption.isSome = true ∧
    (running.book (shotOf 3 5 100)).toOption.isSome = false ∧
    (decodeShots two).toOption = some [shotOf 3 5 100, shotOf 3 9 100] ∧
    ((shooting.book (shotOf 3 5 100)).toOption.map fun r => (r.2.2.book (shotOf 3 9 100)).toOption.isSome) =
      some false := by decide +kernel

/-- A batch of four whose third entry meets the second: two are accepted. -/
theorem test_met_BatchBooked_prefix :
    let es := [shotOf 3 5 100, shotOf 3 205 100, shotOf 3 210 100, shotOf 3 905 100]
    let body := 4 :: es.flatMap shotBody
    let booked (pre : List ShotFields) : Except Refused State :=
      pre.foldlM (fun u e => (u.book e).map fun x => x.2.2) shooting
    shooting.takes ⟨1, 0x31, body⟩ = true ∧ (decodeShots body).toOption = some es ∧
    ((booked (es.take 2)).toOption.map fun t => (t.book (shotOf 3 210 100)).toOption.isSome) = some false ∧
    (got (exec (.shots 1 body) shooting)).link.replies =
      [⟨1, 0xB1, .shots .overlap 2 2 (some (0x1234, 205)), .nothing⟩] := by decide +kernel

theorem test_met_BatchBooked_entry :
    (shooting.checkFields (shotOf 4 5 100)).toOption = none ∧ (shooting.checkStart (shotOf 1 60000001 100)).toOption = none ∧
    ((shooting.setQueue 3 [entry 0 .waiting]).checkRoom 3 5 100).isSome = true ∧ shooting.checkRoom 3 5 100 = none ∧
    (insertEntry 0 (entry 5 .waiting) []).head? = some (entry 5 .waiting) ∧
    (insertEntry 0 (entry 5 .waiting) [entry 0 .waiting]).head? ≠ some (entry 5 .waiting) := by decide +kernel

theorem test_met_CancelRemoves :
    let s (st : EntryState) := shooting.setQueue 3 [entry 5 st]
    (taken 0x32 [3, 1, 0x34, 0x12] = true ∧
      (decodeCancel [3, 1, 0x34, 0x12]).toOption = some ⟨[3], 0x1234, true⟩) ∧
    (shooting.takes ⟨1, 0x32, [3, 0, 0x35, 0x12]⟩ = true ∧ shooting.queue 3 = []) ∧
    ((s (.active 0)).queue 3).head? = some (entry 5 (.active 0)) ∧ (entry 5 (.active 0)).served = true ∧
    ((s .waiting).queue 3).head? = some (entry 5 .waiting) ∧ (entry 5 .waiting).served = false ∧
    shooting.takes ⟨1, 0x32, [0xFF, 1, 0x34, 0x12]⟩ = true ∧
    (decodeCancel [0xFF, 1, 0x34, 0x12]).toOption = some ⟨List.finRange 16, 0x1234, true⟩ := by decide +kernel

/-- Two outputs of one full set: O3 drives its ACTIVE head, O4 waits with its DEFERRED head and one entry behind it. -/
def twoShooting : State :=
  let p : Profile := { prof .shot with iset := some 0 }
  let c : Channel := { chan .hold with demand := some (.shot 0x1234), driveStart := some 0 }
  let w : Channel := { chan .queued with demand := some (.shot 0x1234), deferTimer := some 9 }
  ((((((running.setProfile 3 p).setProfile 4 p).setChan 3 c).setChan 4 w).setQueue 3 [entry 0 (.active 0)]).setQueue 4
    [entry 0 .deferred, { entry 200 .waiting with tag := 7 }]).setIset 0 ⟨1, 9, [3], [4]⟩

/-- CANCEL of every output: O3's fall grants O4, whose DEFERRED head has gone. The grant makes no entry ACTIVE: O4's fall
ends that drive, and the entry behind stays WAITING (R53, R58). -/
theorem test_cancel_all_keeps_next_entry :
    let t := got (exec (.cancel 1 [0xFF, 1, 0x34, 0x12]) twoShooting)
    t.queue 3 = [] ∧ t.queue 4 = [{ entry 200 .waiting with tag := 7 }] ∧ (t.chan 4).state = .off ∧
    (t.iset 0).occupants = [] ∧ t.link.replies = [⟨1, 0xB2, .cancelled 2, .nothing⟩] := by decide +kernel

/-- O3's end of a shot grants O4, whose DEFERRED head becomes ACTIVE with the drive start (R53). -/
theorem test_grant_makes_deferred_active :
    let t := got (exec (.shotEndDue 3) { twoShooting with now := 100 })
    t.queue 4 = [entry 0 (.active 100), { entry 200 .waiting with tag := 7 }] ∧ (t.chan 4).state = .hold := by
  decide +kernel

theorem test_met_ShotEventsTaken :
    let s := shooting.setQueue 3 [entry 0 .waiting, entry 200 .waiting]
    s.inReset = false ∧ s.queue 3 = [entry 0 .waiting, entry 200 .waiting] ∧ due s.now 0 = true ∧
    s.channelFree 3 = true ∧ (s.profile 3).iset = none ∧ (s.setChan 3 (chan .recover)).channelFree 3 = false ∧
    (∀ x ∈ [entry 200 .waiting], x.start ≠ 0) ∧ due s.now 1 = false ∧
    due 51 (0 + BitVec.ofNat 32 51) = true ∧ due 50 (0 + BitVec.ofNat 32 51) = false ∧
    due 100 (0 + BitVec.ofNat 32 100) = true ∧ due 99 (0 + BitVec.ofNat 32 100) = false := by decide +kernel

theorem test_met_ShotEventsTaken_behind :
    let q := [entry 0 (.active 0)] ++ entry 150 .late :: [entry 300 .waiting]
    let s := { shooting with now := 300 }.setQueue 3 q
    let w := { shooting with now := 300 }.setQueue 3 ([entry 0 (.active 0), entry 150 .late] ++ entry 300 .waiting :: [])
    s.inReset = false ∧ s.queue 3 = q ∧ due s.now (150 + BitVec.ofNat 32 51) = true ∧
    (∀ x ∈ [entry 0 (.active 0)], x.state = .late → x.start ≠ 150) ∧
    (w.queue 3 = [entry 0 (.active 0), entry 150 .late] ++ entry 300 .waiting :: [] ∧ due w.now 300 = true ∧
      ∀ x ∈ [entry 0 (.active 0), entry 150 .late] ++ [], x.start ≠ 300) := by decide +kernel

theorem test_met_ShotEventsTaken_look :
    let s (st : EntryState) := shooting.setQueue 3 [entry 0 st]
    let full := (shootingSet 0 [5]).setQueue 3 [entry 0 .late]
    (shooting.setChan 3 (chan .recover)).channelFree 3 = false ∧ shooting.queue 3 = [] ∧
    ((s (.active 0)).queue 3 = [entry 0 (.active 0)] ∧ (entry 0 (.active 0)).served = true ∧
      (s (.active 0)).channelFree 3 = true) ∧
    (due 0 1 = false ∧ due 51 (0 + BitVec.ofNat 32 51) = true ∧ due 50 (0 + BitVec.ofNat 32 51) = false) ∧
    (((s .late).fireHead 3 (entry 0 .late) []).1 = false ∧ (full.fireHead 3 (entry 0 .late) []).1 = true ∧
      full.queue 3 = [entry 0 .late] ∧ full.channelFree 3 = true) ∧
    ((shootingSet 0 []).iset 0).occupants.length < ((shootingSet 0 []).iset 0).capacity ∧
    ((shootingSet 9 [5]).iset 0).deferLimit ≠ 0 ∧
    ((shootingSet 0 [5]).iset 0).capacity ≤ ((shootingSet 0 [5]).iset 0).occupants.length := by decide +kernel

/-- The look drops a LATE head whose drop time is due and fires the next due entry. -/
theorem test_look_drops_then_fires :
    let s := { shooting with now := 200 }.setQueue 3 [entry 0 .late, entry 200 .waiting]
    (s.look 3).queue 3 = [entry 200 (.active 200)] ∧ ((s.look 3).chan 3).state = .hold := by decide +kernel

/-- The free report and the drop time of the LATE head together: the world picks the drop or the firing (log 16). -/
def dropRace (pick : Nat) : State :=
  { ({ shooting with now := 51 }.setQueue 3 [entry 0 .late]) with choices := [pick] }

theorem test_look_at_drop_time :
    ((dropRace 0).look 3).queue 3 = [] ∧ ((dropRace 1).look 3).queue 3 = [entry 0 (.active 51)] := by decide +kernel

theorem test_met_ShotEventsTaken_race :
    (dropRace 0).queue 3 = [entry 0 .late] ∧ (dropRace 0).channelFree 3 = true ∧
    0 + BitVec.ofNat 32 (50 + 1) = (dropRace 0).now ∧ (dropRace 0).takePick.1 = 0 ∧ (dropRace 1).takePick.1 = 1 ∧
    ((dropRace 1).takePick.2.fireHead 3 (entry 0 .late) []).1 = false ∧
    ((({ (shootingSet 0 [5]) with choices := [1] } : State).takePick.2).fireHead 3 (entry 0 .late) []).1 = true ∧
    (0 + BitVec.ofNat 32 51 ≠ (52 : Time) ∧ due 52 (0 + BitVec.ofNat 32 51) = true) ∧ State.reset.choices = [] := by
  decide +kernel

theorem test_met_DemandFallTaken :
    let s (c : Channel) := (fullSet 9).setChan 3 c
    (shooting.profile 3).source = .shot ∧ ((fullSet 9).profile 3).source ≠ .shot ∧
    ((fullSet 9).profile 3).minOff = 0 ∧ ({ prof .shot with minOff := 1 } : Profile).minOff ≠ 0 ∧
    ((s (chan .off)).chan 3).state = .off ∧ (State.reset.chan 3).state = .inhibited ∧
    ((s (chan .queued)).chan 3).state = .queued ∧
    ((s (chan .queued)).profile 3).iset = some 0 ∧ ((s (chan .boost)).chan 3).driving = true ∧
    ((s { chan .overtime with recoverTimer := some 1 }).chan 3).recoverTimer ≠ none ∧
    ((s (chan .overtime)).chan 3).recoverTimer = none ∧ ((s (chan .recover)).chan 3).state = .recover := by
  decide +kernel

theorem test_met_WindowPut :
    let body := camPutBody (window 10 20)
    let s := tracked (trk .unsynced 0)
    let c := s.setProfile 3 (prof .cam)
    (taken 0x42 body = true ∧ (decodeCamPut body).toOption = some (window 10 20) ∧
      State.reset.tracker.cycleLength = 0) ∧
    (s.takes ⟨1, 0x42, body⟩ = true ∧ s.tracker.cycleLength ≠ 0 ∧ s.cam.commitPending = false ∧
      (s.profile 3).source ≠ .cam) ∧
    ((c.profile 3).source = .cam ∧ (decodeCamPut (camPutBody (window 359 360))).toOption = some (window 359 360)) ∧
    (∀ i, rd (Vector.replicate 96 (some (window 10 20))) i ≠ none) ∧
    (rd (table (window 10 20)) 1 = none ∧ windowsConflict 360 (window 19 30) (window 10 20) = true) ∧
    (windowsConflict 360 (window 20 30) (window 10 20) = false ∧ ∀ j, j < (1 : Slot) → rd (table (window 10 20)) j ≠ none) := by
  decide +kernel

theorem test_met_ConflictOfWindows :
    (window 10 20).onAngle < (window 10 20).offAngle ∧ (window 350 20).offAngle < (window 350 20).onAngle ∧
    windowsConflict 360 (window 350 20) (window 19 30) = true ∧
    windowsConflict 360 (window 350 20) (window 20 30) = false ∧
    ((window 340 10).offAngle < (window 340 10).onAngle ∧
      windowsConflict 360 (window 350 20) (window 340 10) = true ∧
      windowsConflict 360 { window 350 20 with divisor := 2 } { window 340 10 with divisor := 2, phase := 1 } = false) := by
  decide +kernel

theorem test_met_WindowDropped :
    let s := (tracked (trk .unsynced 0)).setShadow (table (window 10 20))
    taken 0x43 [0] = true ∧ s.takes ⟨1, 0x43, [0]⟩ = true ∧ s.tracker.cycleLength ≠ 0 ∧
    s.cam.commitPending = false ∧ rd s.cam.shadow 0 ≠ none ∧ rd s.cam.shadow 95 = none ∧ 95 < (96 : Byte).toNat := by
  decide +kernel

theorem test_met_ShadowClearedAndCopied :
    let s := tracked (trk .unsynced 0)
    taken 0x44 [] = true ∧ taken 0x45 [] = true ∧ s.takes ⟨1, 0x44, []⟩ = true ∧ s.takes ⟨1, 0x45, []⟩ = true ∧
    s.tracker.cycleLength ≠ 0 ∧ s.cam.commitPending = false := by decide +kernel

/-- In RUN, SYNCED, a commit pending. -/
def committing : State :=
  { running with tracker := trk .synced 0, cam := { running.cam with commitPending := true } }

theorem test_met_CommitTakenAndAborted :
    committing.takes ⟨1, 0x46, []⟩ = true ∧ committing.takes ⟨1, 0x47, []⟩ = true ∧
    committing.cam.commitPending = true ∧ taken 0x46 [] = true ∧ taken 0x47 [] = true ∧
    State.reset.tracker.state = .off ∧
    ({ running with tracker := trk .stalled 0 } : State).cam.commitPending = false := by decide +kernel

theorem test_met_PulseAndStallTaken :
    State.reset.inReset = false ∧ State.reset.tracker.state = .off ∧
    (trk .verifying 362).pulses ≤ 360 + 2 ∧ (trk .verifying 363).pulses = 360 + 2 + 1 ∧
    (trk .synced 361).pulses < 360 + 2 ∧ min ((trk .synced 361).pulses + 1) 359 = (trk .synced 361).position ∧
    min ((trk .synced 9).pulses + 1) 359 ≠ (trk .synced 9).position ∧ (trk .synced 362).pulses = 360 + 2 ∧
    (trk .stalled 9).state = .stalled ∧ timerDue 0 (some 0) = true ∧ ((withChan (prof .cam) (chan .off)).profile 3).source = .cam := by
  decide +kernel

theorem test_met_IndexTaken :
    let inside (t : Tracker) := t.cycleLength ≤ t.pulses + t.tolerance ∧ t.pulses ≤ t.cycleLength + t.tolerance
    inside (trk .verifying 358) ∧ ¬ inside (trk .verifying 357) ∧ inside (trk .synced 362) ∧ inside (trk .stalled 358) ∧
    ¬ inside (trk .synced 357) ∧ ¬ inside (trk .stalled 357) ∧ (trk .unsynced 0).state = .unsynced := by decide +kernel

theorem test_met_CamMovesDecided :
    let s : State := { withChan (prof .cam) (chan .off) with
      tracker := trk .synced 9, cam := { State.reset.cam with active := table (window 10 20) } }
    let wrap : State := { s with cam := { s.cam with active := table (window 350 20) } }
    let p : Pass := ⟨0, .plain, 7⟩
    s.entryAt 3 10 s.tracker.cycle = some p ∧ s.entryAt 3 11 s.tracker.cycle = none ∧ s.pass 3 = none ∧
    (s.setPass 3 (some p)).pass 3 = some p ∧ rd s.cam.active 0 = some (window 10 20) ∧
    (wrap.setPass 3 (some ⟨0, .head, 7⟩)).pass 3 = some ⟨0, .head, 7⟩ ∧ rd wrap.cam.active 0 = some (window 350 20) ∧
    s.entryAt 3 0 8 = none ∧
    ({ s with cam := { s.cam with active := table (window 0 20) } } : State).entryAt 3 0 8 = some ⟨0, .plain, 8⟩ := by
  decide +kernel

theorem test_met_CamMovesDecided_moves :
    let s (c : Channel) := (withChan (prof .cam) c).setPass 3 (some ⟨0, .plain, 7⟩)
    let demanding := s { chan .hold with demand := some (.cam 0) }
    let remembering := s { chan .recover with remembered := some (.cam 0) }
    let full := ((s (chan .off)).setProfile 3 { prof .cam with iset := some 0 }).setIset 0 ⟨1, 0, [5], []⟩
    let wait := full.setIset 0 ⟨1, 9, [5], []⟩
    (demanding.chan 3).demand ≠ none ∧
    ((remembering.chan 3).demand = none ∧ (remembering.chan 3).remembered ≠ none) ∧
    ((s (chan .off)).chan 3).demand = none ∧ running.pass 3 = none ∧
    (demanding.pass 3 = some ⟨0, .plain, 7⟩ ∧ ((demanding.setPass 3 none).demandFall 3).1 = false) ∧
    ((remembering.setPass 3 none).demandFall 3).1 = true ∧ ((s (chan .inhibited)).chan 3).state = .inhibited ∧
    (((s (chan .off)).riseFromOff 3 (.cam 0)).1 = .driven ∧ (wait.riseFromOff 3 (.cam 0)).1 = .queued ∧
      (full.riseFromOff 3 (.cam 0)).1 = .refused ∧ full.pass 3 = some ⟨0, .plain, 7⟩) := by decide +kernel

/-- A full set without a defer limit refuses a remembered MANUAL demand at the end of RECOVER. -/
theorem test_met_CamMovesDecided_manual :
    let c : Channel := { chan .recover with recoverTimer := some 0, remembered := some .manual, manualDemand := true }
    let t := got (exec (.recoverTimerExpiry 3) ((fullSet 0).setChan 3 c))
    ((fullSet 0).chan 3).state = .off ∧ ((fullSet 0).profile 3).iset = some 0 ∧
    ((fullSet 0).iset 0).capacity ≤ ((fullSet 0).iset 0).occupants.length ∧ ((fullSet 0).iset 0).deferLimit = 0 ∧
    (t.chan 3).state = .off ∧ (t.chan 3).manualDemand = false ∧ t.conflict.isSome = true := by decide +kernel

theorem test_met_PendingCommitLands : committing.cam.commitPending = true ∧ committing.mode = .run := by decide +kernel

theorem test_met_PendingCommitLands_tracker :
    ((committing.camStateChange .synced .unsynced).cam.commitPending = false ∧ committing.cam.commitPending = true) ∧
    running.cam.commitPending = false ∧
    (committing.camStateChange .synced .unsynced).notices.waiting = [⟨1, .camCommitted .tracker 7 0⟩] := by
  decide +kernel

theorem test_met_PendingCommitLands_swap :
    let s (w : Window) : State := { committing with cam := { committing.cam with active := table w } }
    let passing (w : Window) := (s w).setPass 3 (some ⟨0, .head, 7⟩)
    State.reset.mode ≠ .run ∧ running.cam.commitPending = false ∧
    ((passing (window 350 20)).carriedTail 8 3 = some ⟨0, .tail, 7⟩ ∧ (passing (window 350 20)).pass 3 = some ⟨0, .head, 7⟩) ∧
    ((passing (window 0 20)).carriedTail 8 3 = none ∧ (passing (window 0 20)).entryAt 3 0 8 = some ⟨0, .plain, 8⟩) ∧
    ((passing (window 10 20)).carriedTail 8 3 = none ∧ (passing (window 10 20)).entryAt 3 0 8 = none) ∧
    ((s (window 0 20)).pass 3 = none ∧ (s (window 10 20)).entryAt 3 0 8 = none) := by decide +kernel

theorem test_met_AngleAndCycleSet :
    let body := setAngleBody ⟨360, 2, 100⟩
    let off := setAngleBody ⟨0, 2, 0⟩
    (running.takes ⟨1, 0x40, body⟩ = true ∧ (decodeSetAngle body).toOption = some ⟨360, 2, 100⟩) ∧
    ((decodeSetAngle (setAngleBody ⟨60, 15, 0⟩)).toOption = some ⟨60, 15, 0⟩ ∧ 60 ≤ 4 * 15) ∧
    ((decodeSetAngle off).toOption = some ⟨0, 2, 0⟩ ∧ ((State.reset.setProfile 3 (prof .cam)).profile 3).source = .cam) ∧
    (rd (table (window 10 360)) 0 = some (window 10 360) ∧ 4 * 2 < 360) ∧
    (taken 0x40 body = true ∧ State.reset.pass 3 = none ∧ State.reset.cam.commitPending = false) ∧
    taken 0x41 [0xFF, 0xFF, 0xFF, 0xFF] = true := by decide +kernel

theorem test_met_IsetSetAndConflictRead :
    (taken 0x50 (setIsetBody ⟨7, 16, 65535⟩) = true ∧
      (decodeSetIset (setIsetBody ⟨7, 16, 65535⟩)).toOption = some ⟨7, 16, 65535⟩) ∧
    running.takes ⟨1, 0x50, setIsetBody ⟨7, 16, 65535⟩⟩ = true ∧ taken 0x52 [0] = true ∧ taken 0x52 [1] = true ∧
    taken 0x52 [2] = true ∧ taken 0x53 [] = true := by decide +kernel

theorem test_met_SensorsSet :
    let fb := setFaultinBody ⟨3, .low, 255, 1⟩
    let rb := setRailBody ⟨true, 599, 600, 255⟩
    let same := setRailBody ⟨true, 600, 600, 255⟩
    (taken 0x60 fb = true ∧ (decodeSetFaultin fb).toOption = some ⟨3, .low, 255, 1⟩) ∧
    running.takes ⟨1, 0x60, fb⟩ = true ∧ (State.reset.faultIn 3).filtered ≠ (State.reset.faultIn 3).activeLevel ∧
    ((State.reset.setFaultIn 3 { FaultIn.afterReset with filtered := .high }).faultIn 3).active = true ∧
    (taken 0x61 rb = true ∧ (decodeSetRail rb).toOption = some ⟨true, 599, 600, 255⟩) ∧
    (decodeSetRail same).toOption = some ⟨true, 600, 600, 255⟩ ∧ running.takes ⟨1, 0x61, rb⟩ = true ∧
    (let m : RailMonitor := { RailMonitor.afterReset with lowActive := true, highActive := true }
     m.lowActive = true ∧ m.highActive = true) := by decide +kernel

theorem test_met_SensorsSampled :
    let m : RailMonitor := { RailMonitor.afterReset with enable := true, low := 200, high := 300, depth := 1 }
    State.reset.inReset = false ∧ due 9 (State.reset.faultIn 0).nextSample = false ∧
    due 10 (State.reset.faultIn 0).nextSample = true ∧ (State.reset.faultIn 0).run + 1 < 8 ∧
    (({ FaultIn.afterReset with run := 7 } : FaultIn)).depth ≤ 7 + 1 ∧ State.reset.rail.enable = false ∧
    (due 0 m.nextSample = true ∧ (m.sample 200).lowActive = false ∧ (m.sample 199).lowActive = true ∧
      (m.sample 301).highActive = true ∧ (m.sample 300).highActive = false) ∧
    (({ m with lowActive := true } : RailMonitor).sample 301).lowActive = false := by decide +kernel

/-- A group in a state, of a release mode and a restore delay. -/
def grp (st : GroupState) (rel : ReleaseMode) (delay : Nat) (host : Bool) : TripGroup :=
  { TripGroup.afterReset with
    state := st, releaseMode := rel, restoreDelay := delay, hostTrip := host
    restoreTimer := if st = .releasing then some 0 else none }

theorem test_met_GroupMovesByTable :
    let s (x : TripGroup) := State.reset.setGroup 0 x
    (s (grp .normal .manual 0 false)).groupClear 0 = true ∧ (s (grp .normal .manual 0 true)).groupClear 0 = false ∧
    (s (grp .tripped .auto 5 false)).groupClear 0 = true ∧ (s (grp .tripped .auto 0 false)).groupClear 0 = true ∧
    (s (grp .tripped .manual 0 true)).groupClear 0 = false ∧ (s (grp .releasing .auto 5 true)).groupClear 0 = false ∧
    (s (grp .releasing .auto 5 false)).groupClear 0 = true ∧
    timerDue 0 ((s (grp .releasing .auto 5 false)).group 0).restoreTimer = true ∧
    (∀ k, (State.reset.group k).sources &&& 0xFF = 0) := by decide +kernel

/-- The shared sources that are active: I3 at its active level, LINK and RAIL_HIGH. -/
theorem test_sharedSources_bits :
    let x := State.reset.setFaultIn 3 { FaultIn.afterReset with filtered := FaultIn.afterReset.activeLevel }
    ({ x with link := { x.link with linkActive := true }, rail := { x.rail with highActive := true } }).sharedSources =
      0x58 := by decide +kernel

/-- A state in which output 2 is a member of group 3. -/
def memberOfGroup : State := State.reset.setProfile 2 { prof .shot with groups := 8 }

theorem test_met_DriveRightKept : DriveRight State.reset := by decide +kernel

theorem test_driveRight_with_member : DriveRight memberOfGroup := by decide +kernel

theorem test_met_TripStartTaken :
    DriveRight memberOfGroup ∧ (memberOfGroup.group 3).state = .normal ∧ (memberOfGroup.group 3).policy = .purge ∧
    ((State.reset.setGroup 3 { TripGroup.afterReset with policy := .keep }).group 3).policy = .keep ∧
    (memberOfGroup.profile 2).groups.getLsbD 3 = true :=
  ⟨test_driveRight_with_member, by decide +kernel⟩

/-- A source change reaches the groups set to watch it, in ascending order: 1 and 3 trip. -/
theorem test_source_change_reaches_watchers :
    let watch (s : State) (g : GroupId) (m : Byte) := s.setGroup g { TripGroup.afterReset with sources := m }
    let s := watch (watch (watch State.reset 1 0x11) 2 0x02) 3 0x10
    let t := State.sourceChange { s with link := { s.link with linkActive := true } } 0x10
    (t.group 1).state = .tripped ∧ (t.group 2).state = .normal ∧ (t.group 3).state = .tripped ∧
    t.notices.waiting = [⟨1, .groupTripped 1 0x10 0 0⟩, ⟨2, .groupTripped 3 0x10 0 0⟩] := by decide +kernel

theorem test_met_HostTripsAndReleases :
    let s (x : TripGroup) := State.reset.setGroup 3 x
    taken 0x63 [15] = true ∧ taken 0x64 [3] = true ∧ (State.reset.group 3).state = .normal ∧
    (s (grp .tripped .manual 0 true)).takes ⟨1, 0x64, [3]⟩ = true ∧
    ((s (grp .tripped .manual 0 true)).group 3).sources &&& State.reset.sharedSources = 0 ∧
    (let t := { State.reset.setGroup 3 { grp .tripped .manual 0 false with sources := 0x10 } with
       link := { State.reset.link with linkActive := true } }
     (t.group 3).sources &&& t.sharedSources ≠ 0) ∧
    (s (grp .releasing .auto 5 false)).takes ⟨1, 0x64, [3]⟩ = true ∧
    (s (grp .tripped .auto 5 true)).takes ⟨1, 0x64, [3]⟩ = true := by decide +kernel

theorem test_met_TripGroupSet :
    let body := setTgroupBody ⟨3, 0x7F, .auto, 65535, .keep⟩
    let zero := setTgroupBody ⟨3, 0x7F, .auto, 0, .keep⟩
    let s (x : TripGroup) := State.reset.setGroup 3 x
    (taken 0x62 body = true ∧ (decodeSetTgroup body).toOption = some ⟨3, 0x7F, .auto, 65535, .keep⟩) ∧
    (decodeSetTgroup zero).toOption = some ⟨3, 0x7F, .auto, 0, .keep⟩ ∧ running.takes ⟨1, 0x62, body⟩ = true ∧
    (0x7F &&& State.reset.sharedSources = 0 ∧ ((s (grp .normal .manual 0 true)).group 3).hostTrip = true) ∧
    (s (grp .tripped .auto 5 false)).takes ⟨1, 0x62, body⟩ = true ∧
    (s (grp .releasing .auto 5 true)).takes ⟨1, 0x62, body⟩ = true := by decide +kernel

/-- The OK reply to SET_TGROUP carries the group's state after the evaluation (R127): here NORMAL and TRIPPED. -/
theorem test_setTgroup_reply :
    let reply (s : State) := (ownSetTgroup ⟨3, 0x7F, .manual, 0, .keep⟩ s).body.bytes
    reply State.reset = [0, 0] ∧
    reply (State.reset.setGroup 3 (grp .releasing .auto 5 true)) = [0, groupByte .tripped] := by decide +kernel

theorem test_met_BodiesDecode :
    (decodeShot (shotBody ⟨0xFF, 3, 65535, 0xFFFFFFFF, 2 ^ 32 - 1, 65535⟩)).toOption =
      some ⟨0xFF, 3, 65535, 0xFFFFFFFF, 2 ^ 32 - 1, 65535⟩ ∧
    (decodeSetAngle (setAngleBody ⟨65535, 15, 65535⟩)).toOption = some ⟨65535, 15, 65535⟩ ∧
    (decodeSetAngle (setAngleBody ⟨0, 0, 0⟩)).toOption = some ⟨0, 0, 0⟩ ∧
    (decodeSetAngle (setAngleBody ⟨8, 1, 0⟩)).toOption = some ⟨8, 1, 0⟩ ∧
    (decodeCamPut (camPutBody ⟨15, 65535, 0, 8, 7⟩)).toOption = some ⟨15, 65535, 0, 8, 7⟩ ∧
    (decodeSetIset (setIsetBody ⟨7, 16, 65535⟩)).toOption = some ⟨7, 16, 65535⟩ ∧
    (decodeSetFaultin (setFaultinBody ⟨3, .low, 255, 255⟩)).toOption = some ⟨3, .low, 255, 255⟩ ∧
    (decodeSetRail (setRailBody ⟨true, 0, 600, 255⟩)).toOption = some ⟨true, 0, 600, 255⟩ ∧
    (decodeSetTgroup (setTgroupBody ⟨3, 0x7F, .auto, 65535, .keep⟩)).toOption = some ⟨3, 0x7F, .auto, 65535, .keep⟩ ∧
    (decodeSetProfile (setProfileBody 15 ⟨.manual, 10000, 100, 65535, 60000, some 7, 15, .lowActive⟩)).toOption =
      some (15, ⟨.manual, 10000, 100, 65535, 60000, some 7, 15, .lowActive⟩) := by decide +kernel

/-- The bodies of a few choices, at the ends of their ranges. -/
theorem test_met_BodiesDecode_small :
    (decodeSetLink [3, 0xFF, 0xFF]).toOption = some (.b921600, 65535) ∧
    (decodeSetLink [0, 10, 0]).toOption = some (.b115200, 10) ∧
    (decodeCancel [15, 1, 0xFF, 0xFF]).toOption = some ⟨[15], 0xFFFF, true⟩ ∧
    (decodeQueueRead [15, 47]).toOption = some (15, 47) := by decide +kernel

/-- The body of a SHOT reply, of a CONFLICT notice, and a whole reply frame. -/
theorem test_bytes_sent :
    (ReplyBody.shot 0x01020304 .late 3 192).bytes = [0, 4, 3, 2, 1, 1, 3, 192] ∧
    (Notice.mk 0x0102 (.conflict 3 7 9 (.cam 95))).bytes = [2, 1, 3, 7, 9, 0, 0, 0, 2, 95, 0] ∧
    (OutFrame.bytes ⟨false, 5, 0xC7, 0x21, [0]⟩).take 6 = [0x5A, 4, 5, 0xC7, 0x21, 0] := by decide +kernel

theorem test_met_LinkBoundsKept :
    LinkBounds State.reset ∧ NothingHeldBack State.reset ∧ OrdersTaken State.reset ∧ LinkTimed State.reset := by
  decide +kernel

theorem test_met_ShotQueuesKept : PoolBounds State.reset ∧ OnlyHeadServed State.reset ∧ QueuesPlaced State.reset := by
  decide +kernel

theorem test_met_ChannelsRightKept : ChannelsRight State.reset := ⟨test_met_DriveRightKept, by decide +kernel⟩

theorem test_met_TrackerRightKept : State.reset.tracker.right ∧ CommitRight State.reset := by decide +kernel

theorem test_met_TripUnitKept : FiltersRight State.reset ∧ GroupsRight State.reset :=
  ⟨by decide +kernel, by decide +kernel⟩

theorem test_met_PassesKept : PassesPlaced State.reset := by decide +kernel

theorem test_empty_table (i : Slot) (w : Window) : rd (Vector.replicate 96 (none : Option Window)) i ≠ some w := by
  simp [rd]

theorem test_met_TablesRightKept : TablesRight State.reset :=
  ⟨fun i w h => (test_empty_table i w h).elim, fun i w h => (test_empty_table i w h).elim⟩

theorem test_met_NoConflictsKept : TablesRight State.reset ∧ TablesDisjoint State.reset :=
  ⟨test_met_TablesRightKept, fun i _ v _ h => (test_empty_table i v h).elim,
    fun i _ v _ h => (test_empty_table i v h).elim⟩

end Sys2Proof.Tests
end

section
/-! SUPPORT. The cam orders with no fields, CAM_CLEAR, CAM_COPY, CAM_COMMIT and CAM_ABORT (R73, R74, R76, R78): what an
order with an empty body answers, the checks shadow edits share, the four owners case by case, and the two statements
they settle. -/

namespace Sys2Proof.Laws.CamTables

open Sys2Proof Sys2Proof.Machine

/-! ## Orders with an empty body -/

section emptyBody

variable {kind seq : Byte} {owner : Unit → State → Answer} {s : State}

/-- The decoder has nothing to check in an empty body: the owner's answer stands. -/
theorem order_empty_answered {x : Answer} (taken : s.takes ⟨seq, kind, []⟩ = true) (answered : owner () s = x) :
    order kind decodeEmpty owner seq [] s = .next (x.state.answer ⟨seq, kind, []⟩ x.body x.bound) := by
  have checked : decodeEmpty [] = .ok () := rfl
  rw [order_taken taken checked, answered]

theorem order_empty_refused {r : Result} (taken : s.takes ⟨seq, kind, []⟩ = true) (refused : owner () s = refuse s r) :
    order kind decodeEmpty owner seq [] s = .next (s.answer ⟨seq, kind, []⟩ (.code r) .nothing) :=
  order_empty_answered taken refused

end emptyBody

/-- The four commands are orders of their KIND. -/
theorem exec_camClear (seq : Byte) (body : List Byte) (s : State) :
    exec (.camClear seq body) s = order 0x44 decodeEmpty ownCamClear seq body s := rfl
theorem exec_camCopy (seq : Byte) (body : List Byte) (s : State) :
    exec (.camCopy seq body) s = order 0x45 decodeEmpty ownCamCopy seq body s := rfl
theorem exec_camCommit (seq : Byte) (body : List Byte) (s : State) :
    exec (.camCommit seq body) s = order 0x46 decodeEmpty ownCamCommit seq body s := rfl
theorem exec_camAbort (seq : Byte) (body : List Byte) (s : State) :
    exec (.camAbort seq body) s = order 0x47 decodeEmpty ownCamAbort seq body s := rfl

/-! ## Counts, the shared checks, the tracker's states -/

/-- The windows of a table are its occupied slots. -/
theorem count_eq_occupied (t : CamTable) :
    CamTable.count t = ((List.finRange 96).filter fun i => (rd t i).isSome).length := by
  simp [CamTable.count, CamTable.windows, allSlots, List.length_filterMap_eq_countP, List.countP_eq_length_filter]

section shared

variable {s : State}

theorem editRefusal_noAngle (angle : s.tracker.cycleLength = 0) : s.editRefusal = some .noAngle := by
  simp [State.editRefusal, angle]

theorem editRefusal_commitPending (angle : s.tracker.cycleLength ≠ 0) (pending : s.cam.commitPending = true) :
    s.editRefusal = some .commitPending := by
  simp [State.editRefusal, angle, pending]

theorem editRefusal_none (angle : s.tracker.cycleLength ≠ 0) (idle : s.cam.commitPending = false) :
    s.editRefusal = none := by
  simp [State.editRefusal, angle, idle]

/-- With no commit pending, taking a commit writes the active table and nothing else of the Cam Unit. -/
theorem takeCommit_of_none_pending (idle : s.cam.commitPending = false) (cause : CommitCause) :
    s.takeCommit cause =
      State.post { s with cam := { s.cam with active := s.cam.shadow } }
        (.camCommitted cause s.tracker.cycle (CamTable.count s.cam.shadow)) := by
  simp only [State.takeCommit, ← idle]

end shared

theorem tracking_iff (t : TrackerState) : t.tracking = true ↔ t = .synced ∨ t = .stalled := by
  cases t <;> decide

theorem not_tracking_iff (t : TrackerState) :
    t.tracking = false ↔ t = .off ∨ t = .unsynced ∨ t = .verifying := by
  cases t <;> decide

/-! ## The owners -/

section owners

variable {u : Unit} {s : State}

theorem ownCamClear_refused {r : Result} (refused : s.editRefusal = some r) : ownCamClear u s = refuse s r := by
  simp [ownCamClear, refused]

theorem ownCamClear_taken (free : s.editRefusal = none) :
    ownCamClear u s =
      { state := s.setShadow (Vector.replicate 96 none), body := .windows (CamTable.count s.cam.shadow) } := by
  simp [ownCamClear, free]

theorem ownCamCopy_refused {r : Result} (refused : s.editRefusal = some r) : ownCamCopy u s = refuse s r := by
  simp [ownCamCopy, refused]

theorem ownCamCopy_taken (free : s.editRefusal = none) :
    ownCamCopy u s = { state := s.setShadow s.cam.active, body := .windows (CamTable.count s.cam.active) } := by
  simp [ownCamCopy, free]

theorem ownCamCommit_refused (pending : s.cam.commitPending = true) :
    ownCamCommit u s = refuse s .commitPending := by
  simp [ownCamCommit, pending]

/-- While the shaft runs under the program the commit waits (R76, Pending). -/
theorem ownCamCommit_waits (idle : s.cam.commitPending = false) (run : s.mode = .run)
    (tracking : s.tracker.state.tracking = true) :
    ownCamCommit u s =
      { state := { s with cam := { s.cam with commitPending := true } }
        body := .commit true (CamTable.count s.cam.shadow) } := by
  simp [ownCamCommit, idle, run, tracking]

/-- Elsewhere it takes effect at once (R76, Immediate). -/
theorem ownCamCommit_at_once (idle : s.cam.commitPending = false)
    (still : s.mode ≠ .run ∨ s.tracker.state.tracking = false) :
    ownCamCommit u s =
      { state := s.takeCommit .order, body := .commit false (CamTable.count s.cam.shadow) } := by
  have notWaiting : ¬ (s.mode = .run ∧ s.tracker.state.tracking = true) := by
    rintro ⟨run, tracking⟩
    rcases still with off | untracked
    · exact off run
    · simp [untracked] at tracking
  simp [ownCamCommit, idle, notWaiting]

theorem ownCamAbort_refused (idle : s.cam.commitPending = false) : ownCamAbort u s = refuse s .notPending := by
  simp [ownCamAbort, idle]

theorem ownCamAbort_taken (pending : s.cam.commitPending = true) :
    ownCamAbort u s = { state := { s with cam := { s.cam with commitPending := false } }, body := .code .ok } := by
  simp [ownCamAbort, pending]

end owners

/-! ## The statements -/

/-- Settles O36: the shared checks refuse, and an edit that passes them writes the shadow and counts. -/
theorem shadowClearedAndCopied : Obligations.ShadowClearedAndCopied := by
  intro seq s
  simp only [← count_eq_occupied, exec_camClear, exec_camCopy]
  refine ⟨fun taken => ⟨fun angle => ?_, fun angle pending => ?_, fun angle idle => ?_⟩,
    fun taken => ⟨fun angle => ?_, fun angle pending => ?_, fun angle idle => ?_⟩⟩
  · exact order_empty_refused taken (ownCamClear_refused (editRefusal_noAngle angle))
  · exact order_empty_refused taken (ownCamClear_refused (editRefusal_commitPending angle pending))
  · exact order_empty_answered taken (ownCamClear_taken (editRefusal_none angle idle))
  · exact order_empty_refused taken (ownCamCopy_refused (editRefusal_noAngle angle))
  · exact order_empty_refused taken (ownCamCopy_refused (editRefusal_commitPending angle pending))
  · exact order_empty_answered taken (ownCamCopy_taken (editRefusal_none angle idle))

/-- Settles O37: a commit by what is pending, the mode and the tracker's state; an abort by what is pending. -/
theorem commitTakenAndAborted : Obligations.CommitTakenAndAborted := by
  refine ⟨fun seq s taken => ?_, fun seq s taken => ?_⟩
  · simp only [← count_eq_occupied, exec_camCommit, ← tracking_iff, ← not_tracking_iff]
    refine ⟨fun pending => ?_, fun idle run tracking => ?_, fun idle still => ?_⟩
    · exact order_empty_refused taken (ownCamCommit_refused pending)
    · exact order_empty_answered taken (ownCamCommit_waits idle run tracking)
    · rw [← takeCommit_of_none_pending idle]
      exact order_empty_answered taken (ownCamCommit_at_once idle still)
  · simp only [exec_camAbort]
    refine ⟨fun idle => ?_, fun pending => ?_⟩
    · exact order_empty_refused taken (ownCamAbort_refused idle)
    · exact order_empty_answered taken (ownCamAbort_taken pending)

end Sys2Proof.Laws.CamTables
end

section
/-! SUPPORT. SET_CONFLICT (R102): which bytes the decoder takes for a conflict policy, what the order answers to a policy
and to any other byte, and the statement they settle. -/

namespace Sys2Proof.Laws.SetConflict

open Sys2Proof Sys2Proof.Machine

/-! ## The policy byte -/

/-- Only 0 and 1 are policies (R174). -/
theorem policy_ofByte_none {b : Byte} (notFirst : b ≠ 0) (notLatest : b ≠ 1) : ConflictPolicy.ofByte b = none := by
  have codeNotFirst : b.toNat ≠ 0 := fun code => notFirst (BitVec.eq_of_toNat_eq code)
  have codeNotLatest : b.toNat ≠ 1 := fun code => notLatest (BitVec.eq_of_toNat_eq code)
  unfold ConflictPolicy.ofByte
  split
  case h_1 code => exact absurd code codeNotFirst
  case h_2 code => exact absurd code codeNotLatest
  case h_3 => rfl

theorem decodeSetConflict_policy {b : Byte} {p : ConflictPolicy} (policy : ConflictPolicy.ofByte b = some p) :
    decodeSetConflict [b] = .ok p := by
  simp only [decodeSetConflict, policy, fieldOr]

theorem decodeSetConflict_badField {b : Byte} (other : ConflictPolicy.ofByte b = none) :
    decodeSetConflict [b] = .error .badField := by
  simp only [decodeSetConflict, other, fieldOr]

/-! ## The order -/

/-- The command is the order of KIND 0x52. -/
theorem exec_setConflict (seq : Byte) (body : List Byte) (s : State) :
    exec (.setConflict seq body) s = order 0x52 decodeSetConflict ownSetConflict seq body s := rfl

section taken

variable {seq b : Byte} {s : State}

/-- A policy is written and nothing else of the Interlock Unit, in every mode. -/
theorem exec_setConflict_policy {p : ConflictPolicy} (taken : s.takes ⟨seq, 0x52, [b]⟩ = true)
    (policy : ConflictPolicy.ofByte b = some p) :
    exec (.setConflict seq [b]) s =
      .next (State.answer { s with conflictPolicy := p } ⟨seq, 0x52, [b]⟩ (.code .ok) .nothing) := by
  rw [exec_setConflict, order_taken taken (decodeSetConflict_policy policy)]
  simp only [ownSetConflict]

/-- Any other byte is refused by the decoder's checks. -/
theorem exec_setConflict_badField (taken : s.takes ⟨seq, 0x52, [b]⟩ = true)
    (other : ConflictPolicy.ofByte b = none) :
    exec (.setConflict seq [b]) s = .next (s.answer ⟨seq, 0x52, [b]⟩ (.code .badField) .nothing) := by
  rw [exec_setConflict, order_refused taken (decodeSetConflict_badField other)]

end taken

/-! ## The statement -/

/-- Settles O44: by the byte, which is KEEP_FIRST, KEEP_LATEST or no policy. -/
theorem conflictPolicySet : Obligations.ConflictPolicySet := by
  intro seq b s taken
  refine ⟨fun first => ?_, fun latest => ?_, fun notFirst notLatest => ?_, rfl⟩
  · have policy : ConflictPolicy.ofByte b = some .keepFirst := by rw [first]; rfl
    exact exec_setConflict_policy taken policy
  · have policy : ConflictPolicy.ofByte b = some .keepLatest := by rw [latest]; rfl
    exact exec_setConflict_policy taken policy
  · exact exec_setConflict_badField taken (policy_ofByte_none notFirst notLatest)

end Sys2Proof.Laws.SetConflict
end

section
/-! SUPPORT. The interlock sets as lists (R91, R94 to R97): an output that becomes an occupant, joins or leaves the grant
list, or gives its place to the head of the grant list. -/

namespace Sys2Proof.Laws.Sets

open Sys2Proof Sys2Proof.Machine

/-! ## Occupants in ascending order -/

theorem mem_insertOutput {o x : Output} {l : List Output} : x ∈ insertOutput o l ↔ x = o ∨ x ∈ l := by
  induction l with
  | nil => simp [insertOutput]
  | cons y ys ih =>
    unfold insertOutput
    split
    · simp
    · split
      · rename_i same; simp [same]
      · rw [List.mem_cons, ih, List.mem_cons]; tauto

theorem pairwise_insertOutput {o : Output} {l : List Output} (h : l.Pairwise (· < ·)) :
    (insertOutput o l).Pairwise (· < ·) := by
  induction l with
  | nil => simp [insertOutput]
  | cons y ys ih =>
    obtain ⟨above, sorted⟩ := List.pairwise_cons.mp h
    unfold insertOutput
    split
    · rename_i below
      refine List.pairwise_cons.mpr ⟨fun x m => ?_, h⟩
      rcases List.mem_cons.mp m with rfl | m
      · exact below
      · exact below.trans (above x m)
    · split
      · exact h
      · rename_i notBelow other
        refine List.pairwise_cons.mpr ⟨fun x m => ?_, ih sorted⟩
        rcases mem_insertOutput.mp m with rfl | m
        · exact lt_of_le_of_ne (not_lt.mp notBelow) (Ne.symm other)
        · exact above x m

theorem length_insertOutput {o : Output} {l : List Output} (h : o ∉ l) :
    (insertOutput o l).length = l.length + 1 := by
  induction l with
  | nil => rfl
  | cons y ys ih =>
    simp only [List.mem_cons, not_or] at h
    unfold insertOutput
    split
    · rfl
    · simp [h.1, ih h.2]

/-! ## A set that fits its members -/

/-- A set whose occupants are those that drive, and whose grant list those that wait. -/
structure Fits (x : ISet) (drives waits : Output → Prop) : Prop where
  occupants : ∀ o, o ∈ x.occupants ↔ drives o
  grants : ∀ o, o ∈ x.grants ↔ waits o
  sorted : x.occupants.Pairwise (· < ·)
  once : x.grants.Nodup
  bound : x.occupants.length ≤ x.capacity
  full : x.grants ≠ [] → x.occupants.length = x.capacity

section fits

variable {x : ISet} {drives waits drives' waits' : Output → Prop} {o : Output}

theorem Fits.congr (h : Fits x drives waits) (d : ∀ p, drives' p ↔ drives p) (w : ∀ p, waits' p ↔ waits p) :
    Fits x drives' waits' :=
  ⟨fun p => (h.occupants p).trans (d p).symm, fun p => (h.grants p).trans (w p).symm, h.sorted, h.once, h.bound,
    h.full⟩

/-- An output that did not drive takes a free place. -/
theorem Fits.enter (h : Fits x drives waits) (room : x.room = true) (out : ¬ drives o)
    (d : ∀ p, drives' p ↔ p = o ∨ drives p) (w : ∀ p, waits' p ↔ waits p) :
    Fits { x with occupants := insertOutput o x.occupants } drives' waits' := by
  have free : x.occupants.length < x.capacity := by simpa [ISet.room] using room
  have len := length_insertOutput (o := o) (l := x.occupants) fun m => out ((h.occupants o).mp m)
  refine ⟨fun p => ?_, fun p => (h.grants p).trans (w p).symm, pairwise_insertOutput h.sorted, h.once, ?_, ?_⟩
  · rw [d, ← h.occupants]; exact mem_insertOutput
  · dsimp only; omega
  · intro waiting
    have := h.full waiting
    omega

/-- An output that did not wait joins the grant list of a full set. -/
theorem Fits.join (h : Fits x drives waits) (noRoom : x.room = false) (out : ¬ waits o)
    (d : ∀ p, drives' p ↔ drives p) (w : ∀ p, waits' p ↔ p = o ∨ waits p) :
    Fits { x with grants := x.grants ++ [o] } drives' waits' := by
  have full : x.capacity ≤ x.occupants.length := by simpa [ISet.room] using noRoom
  refine ⟨fun p => (h.occupants p).trans (d p).symm, fun p => ?_, h.sorted, ?_, h.bound, fun _ => ?_⟩
  · rw [w, ← h.grants]; simp [or_comm]
  · refine List.nodup_append.mpr ⟨h.once, by simp, fun a m b e same => ?_⟩
    simp only [List.mem_singleton] at e
    exact out ((h.grants o).mp (e ▸ same ▸ m))
  · exact le_antisymm h.bound full

/-- A waiting output leaves the grant list. -/
theorem Fits.leave (h : Fits x drives waits) (d : ∀ p, drives' p ↔ drives p)
    (w : ∀ p, waits' p ↔ p ≠ o ∧ waits p) : Fits { x with grants := x.grants.erase o } drives' waits' := by
  refine ⟨fun p => (h.occupants p).trans (d p).symm, fun p => ?_, h.sorted, h.once.erase o, h.bound,
    fun waiting => h.full ?_⟩
  · rw [w, ← h.grants]; exact h.once.mem_erase_iff
  · intro empty; simp [empty] at waiting

/-- An occupant leaves a set on which no output waits. -/
theorem Fits.vacate (h : Fits x drives waits) (nobody : x.grants = []) (d : ∀ p, drives' p ↔ p ≠ o ∧ drives p)
    (w : ∀ p, waits' p ↔ waits p) : Fits { x with occupants := x.occupants.erase o } drives' waits' := by
  have once : x.occupants.Nodup := h.sorted.imp fun lt => ne_of_lt lt
  refine ⟨fun p => ?_, fun p => (h.grants p).trans (w p).symm, h.sorted.sublist List.erase_sublist, h.once, ?_,
    fun waiting => absurd nobody waiting⟩
  · rw [d, ← h.occupants]; exact once.mem_erase_iff
  · exact List.length_erase_le.trans h.bound

/-- An occupant gives its place to the head of the grant list. -/
theorem Fits.handOn {g : Output} {rest : List Output} (h : Fits x drives waits) (head : x.grants = g :: rest)
    (inside : drives o) (outside : ¬ drives g) (d : ∀ p, drives' p ↔ p = g ∨ p ≠ o ∧ drives p)
    (w : ∀ p, waits' p ↔ p ≠ g ∧ waits p) :
    Fits { x with occupants := insertOutput g (x.occupants.erase o), grants := rest } drives' waits' := by
  have once : x.occupants.Nodup := h.sorted.imp fun lt => ne_of_lt lt
  have restOnce : g ∉ rest ∧ rest.Nodup := by simpa [head] using h.once
  have mem := (h.occupants o).mpr inside
  have notIn : g ∉ x.occupants.erase o := fun m => outside ((h.occupants g).mp (List.mem_of_mem_erase m))
  have len : (insertOutput g (x.occupants.erase o)).length = x.capacity := by
    have full := h.full (by simp [head])
    have pos := List.length_pos_of_mem mem
    rw [length_insertOutput notIn, List.length_erase_of_mem mem]
    omega
  refine ⟨fun p => ?_, fun p => ?_, pairwise_insertOutput (h.sorted.sublist List.erase_sublist), restOnce.2,
    len.le, fun _ => len⟩
  · rw [d, ← h.occupants]; exact mem_insertOutput.trans (or_congr_right once.mem_erase_iff)
  · rw [w, ← h.grants, head, List.mem_cons]
    constructor
    · intro m; exact ⟨fun same => restOnce.1 (same ▸ m), .inr m⟩
    · rintro ⟨ne, m⟩; exact m.resolve_left ne

end fits

end Sys2Proof.Laws.Sets
end

section
/-! SUPPORT. What the channels, the sets, the queues and the passes do among themselves, said once for every shared
operation (`Acts`): the trip groups, the cam tables, the link timer and every field outside them stay, a pass is at most
ended, the interlock sets stay right, and every channel's record stays right without passing into or out of INHIBITED. -/

namespace Sys2Proof.Laws.Drive

open Sys2Proof Sys2Proof.Machine Sys2Proof.Laws.Sets

/-! ## The sets of a state -/

/-- The interlock part of `DriveRight`. -/
def SetsRight (s : State) : Prop := (∀ i, SetRight s i) ∧ QueuedHasSet s

theorem driveRight_iff (s : State) : DriveRight s ↔ SetsRight s ∧ InhibitRight s := by
  unfold SetsRight; tauto

/-- What the sets see of a channel: whether it drives, and whether it waits. -/
def standing (c : Channel) : Bool × Bool := (c.driving, c.state = .queued)

/-- An output drives as a member of a set. -/
def Drives (s : State) (i : SetId) (o : Output) : Prop := (s.profile o).iset = some i ∧ (s.chan o).driving = true

/-- An output waits as a member of a set. -/
def Waits (s : State) (i : SetId) (o : Output) : Prop := (s.profile o).iset = some i ∧ (s.chan o).state = .queued

theorem setRight_iff (s : State) (i : SetId) : SetRight s i ↔ Fits (s.iset i) (Drives s i) (Waits s i) :=
  ⟨fun ⟨a, b, c, d, e, f⟩ => ⟨a, b, c, d, e, f⟩, fun ⟨a, b, c, d, e, f⟩ => ⟨a, b, c, d, e, f⟩⟩

theorem standing_eq_iff (c d : Channel) :
    standing c = standing d ↔ c.driving = d.driving ∧ (c.state = .queued ↔ d.state = .queued) := by
  simp [standing]

theorem standing_of_state {c d : Channel} (h : c.state = d.state) : standing c = standing d := by
  simp [standing, Channel.driving, h]

theorem not_driving_of_queued {c : Channel} (h : c.state = .queued) : c.driving = false := by
  simp [Channel.driving, h]

theorem profile_of_profiles {s t : State} (h : t.profiles = s.profiles) (o : Output) : t.profile o = s.profile o := by
  simp only [State.profile, h]

theorem iset_of_isets {s t : State} (h : t.isets = s.isets) (i : SetId) : t.iset i = s.iset i := by
  simp only [State.iset, h]

theorem chan_of_channels {s t : State} (h : t.channels = s.channels) (o : Output) : t.chan o = s.chan o := by
  simp only [State.chan, h]

section change

variable {s t : State} {o : Output} {i : SetId}

theorem drives_iff_of_standing (profiles : t.profiles = s.profiles) {p : Output}
    (h : (s.profile p).iset = some i → standing (t.chan p) = standing (s.chan p)) :
    Drives t i p ↔ Drives s i p := by
  unfold Drives
  rw [profile_of_profiles profiles]
  exact and_congr_right fun m => by rw [((standing_eq_iff ..).mp (h m)).1]

theorem waits_iff_of_standing (profiles : t.profiles = s.profiles) {p : Output}
    (h : (s.profile p).iset = some i → standing (t.chan p) = standing (s.chan p)) :
    Waits t i p ↔ Waits s i p := by
  unfold Waits
  rw [profile_of_profiles profiles]
  exact and_congr_right fun m => ((standing_eq_iff ..).mp (h m)).2

/-- Only the set of one output and the members of that set are touched: the set is to be shown right again. -/
theorem SetsRight.change (h : SetsRight s) (profiles : t.profiles = s.profiles)
    (others : ∀ p, (s.profile p).iset ≠ (s.profile o).iset → standing (t.chan p) = standing (s.chan p))
    (apart : ∀ j, (s.profile o).iset ≠ some j → t.iset j = s.iset j)
    (own : ∀ i, (s.profile o).iset = some i → Fits (t.iset i) (Drives t i) (Waits t i))
    (queued : (s.profile o).iset = none → ∀ p, (s.profile p).iset = none → (t.chan p).state ≠ .queued) :
    SetsRight t := by
  refine ⟨fun j => (setRight_iff t j).mpr ?_, fun p q => ?_⟩
  · by_cases m : (s.profile o).iset = some j
    · exact own j m
    · have same : ∀ p, (s.profile p).iset = some j → standing (t.chan p) = standing (s.chan p) := fun p mp =>
        others p fun e => m (e ▸ mp)
      rw [apart j m]
      exact ((setRight_iff s j).mp (h.1 j)).congr (fun p => drives_iff_of_standing profiles (same p))
        (fun p => waits_iff_of_standing profiles (same p))
  · rw [profile_of_profiles profiles]
    intro none
    by_cases m : (s.profile o).iset = Option.none
    · exact queued m p none q
    · have same := others p (by rw [none]; exact fun e => m e.symm)
      exact h.2 p (((standing_eq_iff ..).mp same).2.mp q) none

/-- What the sets see stays. -/
theorem SetsRight.congr (h : SetsRight s) (profiles : t.profiles = s.profiles) (isets : t.isets = s.isets)
    (same : ∀ p, standing (t.chan p) = standing (s.chan p)) : SetsRight t := by
  refine h.change (o := 0) profiles (fun p _ => same p) (fun j _ => iset_of_isets isets j) (fun i _ => ?_)
    (fun _ p none q => h.2 p (((standing_eq_iff ..).mp (same p)).2.mp q) none)
  rw [iset_of_isets isets i]
  exact ((setRight_iff s i).mp (h.1 i)).congr (fun p => drives_iff_of_standing profiles fun _ => same p)
    (fun p => waits_iff_of_standing profiles fun _ => same p)

end change

/-! ## The beginning of a drive, from its definition -/

/-- A channel's record as its drive begins (R25). -/
def begun (c : Channel) (now : Time) (p : Profile) : Channel :=
  { c with
    state := if p.boost = 0 then .hold else .boost
    driveStart := some now
    boostTimer := if p.boost = 0 then none else some (after now p.boost)
    maxOnTimer := if p.maxOn = 0 then none else some (after now (msToUs p.maxOn))
    deferTimer := none
    holdPhase := 0 }

theorem begun_driving (c : Channel) (now : Time) (p : Profile) : (begun c now p).driving = true := by
  unfold begun Channel.driving
  dsimp only
  split <;> rfl

theorem begun_not_queued (c : Channel) (now : Time) (p : Profile) : (begun c now p).state ≠ .queued := by
  unfold begun
  dsimp only
  split <;> simp

theorem reportBegun_frame (s : State) (o : Output) (d : Option Origin) :
    s.reportBegun o d = { s with queues := (s.reportBegun o d).queues } := by
  unfold State.reportBegun
  split
  · split
    · split <;> rfl
    · rfl
  · rfl

theorem beginDrive_frame (s : State) (o : Output) :
    s.beginDrive o =
      { s.setChan o (begun (s.chan o) s.now (s.profile o)) with queues := (s.beginDrive o).queues } :=
  reportBegun_frame ..

theorem beginDrive_chan (s : State) (o p : Output) :
    (s.beginDrive o).chan p = if p = o then begun (s.chan o) s.now (s.profile o) else s.chan p := by
  rw [beginDrive_frame]; exact State.setChan_chan ..

theorem beginDrive_iset (s : State) (o : Output) (i : SetId) : (s.beginDrive o).iset i = s.iset i := by
  rw [beginDrive_frame]; rfl

theorem beginDrive_profiles (s : State) (o : Output) : (s.beginDrive o).profiles = s.profiles := by
  rw [beginDrive_frame]; rfl

theorem captureConflict_frame (s : State) (o : Output) (i : SetId) (g : Origin) :
    s.captureConflict o i g =
      { s with
        conflict := (s.captureConflict o i g).conflict
        link := (s.captureConflict o i g).link
        notices := (s.captureConflict o i g).notices } := by
  unfold State.captureConflict
  dsimp only
  split
  · rw [post_frame]
  · split <;> rfl

/-! ## What a state keeps outside the channels, the sets and the queues -/

/-- The fields of the link timer and of LINK. -/
def timing (l : Link) : Nat × Option Time × Bool := (l.timeout, l.timer, l.linkActive)

theorem pump_timing (s : State) : timing s.pump.link = timing s.link := by
  unfold State.pump State.choose
  split
  · rfl
  · split
    · rfl
    · split <;> rfl
    · rfl
    · rfl

/-- The fields that no operation of the channels, the sets and the queues writes: the clock, the mode, the tracker, the
profiles, the sources and the groups, the cam tables with their commit, the link timer. -/
def outside (s : State) :=
  (s.now, s.mode, s.tracker, s.profiles, s.faultIns, s.rail, s.groups, s.cam.active, s.cam.shadow,
    s.cam.commitPending, timing s.link)

/-- The outside fields stay, and passes are set only where the caller allows it. -/
structure Calm (W : Output → Prop) (s t : State) : Prop where
  outside : outside t = outside s
  passes : ∀ o, t.pass o = s.pass o ∨ t.pass o = none ∨ W o

section calm

variable {W : Output → Prop} {s t u : State}

theorem Calm.refl : Calm W s s := ⟨rfl, fun _ => .inl rfl⟩

theorem Calm.trans (a : Calm W s t) (b : Calm W t u) : Calm W s u :=
  ⟨b.outside.trans a.outside, fun o => by
    rcases b.passes o with e | e | w
    · rw [e]; exact a.passes o
    · exact .inr (.inl e)
    · exact .inr (.inr w)⟩

/-- The Cam Unit stays. -/
theorem Calm.of_cam (k : Drive.outside t = Drive.outside s) (c : t.cam = s.cam) : Calm W s t :=
  ⟨k, fun o => .inl (by simp only [State.pass, c])⟩

theorem Calm.chan (o : Output) (c : Channel) : Calm W s (s.setChan o c) := .of_cam rfl rfl
theorem Calm.iset (i : SetId) (x : ISet) : Calm W s (s.setIset i x) := .of_cam rfl rfl
theorem Calm.queue (o : Output) (q : List Entry) : Calm W s (s.setQueue o q) := .of_cam rfl rfl

theorem Calm.pass (o : Output) (p : Option Pass) (h : p = none ∨ W o) : Calm W s (s.setPass o p) :=
  ⟨rfl, fun j => by
    rw [State.setPass_pass]
    split
    · rename_i e; subst e; exact .inr h
    · exact .inl rfl⟩

theorem post_cam (s : State) (b : NoticeBody) : (s.post b).cam = s.cam := by rw [post_frame]

theorem post_outside (s : State) (b : NoticeBody) : Drive.outside (s.post b) = Drive.outside s := by
  have t : Drive.timing (s.post b).link = Drive.timing s.link := pump_timing _
  rw [post_frame] at t ⊢
  simp only [Drive.outside, t]

theorem Calm.post (b : NoticeBody) : Calm W s (s.post b) := .of_cam (post_outside s b) (post_cam s b)

theorem Calm.reportBegun (o : Output) (d : Option Origin) : Calm W s (s.reportBegun o d) := by
  rw [reportBegun_frame]; exact .of_cam rfl rfl

theorem Calm.beginDrive (o : Output) : Calm W s (s.beginDrive o) := (Calm.chan ..).trans (.reportBegun ..)

theorem Calm.withdraw (o : Output) : Calm W s (s.withdraw o) := by
  unfold State.withdraw
  split
  · exact .iset ..
  · exact .refl

theorem Calm.captureConflict (o : Output) (i : SetId) (g : Origin) : Calm W s (s.captureConflict o i g) := by
  unfold State.captureConflict
  dsimp only
  have record : ∀ r, Calm W s { s with conflict := r } := fun r => .of_cam rfl rfl
  split
  · exact (record _).trans (.post _)
  · split <;> exact record _

theorem Calm.grantNext (i : SetId) : Calm W s (s.grantNext i) := by
  unfold State.grantNext
  split
  · exact .refl
  · exact ((Calm.iset ..).trans (.iset ..)).trans (.beginDrive _)

theorem Calm.releasePlace (o : Output) : Calm W s (s.releasePlace o) := by
  unfold State.releasePlace
  split
  · exact .refl
  · exact (Calm.iset ..).trans (.grantNext _)

theorem Calm.riseFromOff (o : Output) (g : Origin) : Calm W s (s.riseFromOff o g).2 := by
  unfold State.riseFromOff
  dsimp only
  split
  · exact (Calm.chan ..).trans (.beginDrive _)
  · split
    · exact ((Calm.chan ..).trans (.iset ..)).trans (.beginDrive _)
    · split
      · exact ((Calm.chan ..).trans (.iset ..)).trans (.chan ..)
      · exact ((Calm.chan ..).trans (.captureConflict ..)).trans (.chan ..)

theorem outside_profiles (h : Drive.outside t = Drive.outside s) : t.profiles = s.profiles := congrArg (·.2.2.2.1) h
theorem outside_mode (h : Drive.outside t = Drive.outside s) : t.mode = s.mode := congrArg (·.2.1) h
theorem outside_tracker (h : Drive.outside t = Drive.outside s) : t.tracker = s.tracker := congrArg (·.2.2.1) h
theorem outside_faultIns (h : Drive.outside t = Drive.outside s) : t.faultIns = s.faultIns := congrArg (·.2.2.2.2.1) h
theorem outside_rail (h : Drive.outside t = Drive.outside s) : t.rail = s.rail := congrArg (·.2.2.2.2.2.1) h
theorem outside_groups (h : Drive.outside t = Drive.outside s) : t.groups = s.groups := congrArg (·.2.2.2.2.2.2.1) h
theorem outside_active (h : Drive.outside t = Drive.outside s) : t.cam.active = s.cam.active :=
  congrArg (·.2.2.2.2.2.2.2.1) h
theorem outside_shadow (h : Drive.outside t = Drive.outside s) : t.cam.shadow = s.cam.shadow :=
  congrArg (·.2.2.2.2.2.2.2.2.1) h
theorem outside_commit (h : Drive.outside t = Drive.outside s) : t.cam.commitPending = s.cam.commitPending :=
  congrArg (·.2.2.2.2.2.2.2.2.2.1) h
theorem outside_timing (h : Drive.outside t = Drive.outside s) : Drive.timing t.link = Drive.timing s.link :=
  congrArg (·.2.2.2.2.2.2.2.2.2.2) h

theorem outside_profile (h : Drive.outside t = Drive.outside s) (o : Output) : t.profile o = s.profile o :=
  profile_of_profiles (outside_profiles h) o

theorem outside_group (h : Drive.outside t = Drive.outside s) (g : GroupId) : t.group g = s.group g := by
  simp only [State.group, outside_groups h]

theorem outside_inhibitCondition (h : Drive.outside t = Drive.outside s) (o : Output) :
    t.inhibitCondition o = s.inhibitCondition o := by
  simp only [State.inhibitCondition, State.heldByGroup, outside_mode h, outside_profile h, outside_group h]

end calm

/-! ## Channel records -/

/-- A channel stays right and does not pass into or out of INHIBITED. -/
def Steady (c d : Channel) : Prop := (d.state = .inhibited ↔ c.state = .inhibited) ∧ (c.right → d.right)

theorem Steady.refl (c : Channel) : Steady c c := ⟨.rfl, id⟩

theorem Steady.trans {c d e : Channel} (a : Steady c d) (b : Steady d e) : Steady c e :=
  ⟨b.1.trans a.1, b.2 ∘ a.2⟩

section records

variable {c : Channel}

/-- The rise of a demand in OFF, and the drive at once (R24, R25). -/
theorem steady_rise (off : c.state = .off) (g : Origin) (now : Time) (p : Profile) :
    Steady c (begun { c with demand := some g } now p) := by
  by_cases b : p.boost = 0 <;>
    simp +contextual [Steady, Channel.right, Channel.driving, begun, off, b, apply_ite Option.isSome]

/-- The beginning of the drive of a channel in QUEUED (R25, R26). -/
theorem steady_grant (queued : c.state = .queued) (now : Time) (p : Profile) : Steady c (begun c now p) := by
  by_cases b : p.boost = 0 <;> simp +contextual [Steady, Channel.right, Channel.driving, begun, queued, b]

/-- The rise of a demand in OFF that waits (R24). -/
theorem steady_wait (off : c.state = .off) (g : Origin) (t : Time) :
    Steady c { c with demand := some g, state := .queued, deferTimer := some t } := by
  simp +contextual [Steady, Channel.right, Channel.driving, off]

/-- The rise of a demand in OFF that its set refuses (R24). -/
theorem steady_refused (off : c.state = .off) : Steady c { c with demand := none } := by
  simp +contextual [Steady, Channel.right, Channel.driving, off]

/-- A channel in QUEUED gives its demand up (R28, R27). -/
theorem steady_unqueued (queued : c.state = .queued) :
    Steady c { c with state := .off, demand := none, deferTimer := none } := by
  simp +contextual [Steady, Channel.right, Channel.driving, queued]

theorem driving_iff : c.driving = true ↔ c.state = .boost ∨ c.state = .hold := by simp [Channel.driving]

/-- A drive stops and its demand is gone, with no min off-time (R30). -/
theorem steady_stopped_off (d : c.driving = true) (now : Time) :
    Steady c { c.stopped now 0 with state := .off, demand := none } := by
  rcases driving_iff.mp d with e | e <;>
    simp +contextual [Steady, Channel.right, Channel.driving, Channel.stopped, e]

/-- A drive stops and its demand is gone, with a min off-time (R30). -/
theorem steady_stopped_recover (d : c.driving = true) (now : Time) {minOff : Nat} (m : minOff ≠ 0) :
    Steady c { c.stopped now minOff with state := .recover, demand := none } := by
  rcases driving_iff.mp d with e | e <;>
    simp +contextual [Steady, Channel.right, Channel.driving, Channel.stopped, e, m]

/-- The cut into OVERTIME (R31). -/
theorem steady_cut (d : c.driving = true) (now : Time) (minOff : Nat) :
    Steady c { c.stopped now minOff with state := .overtime } := by
  rcases driving_iff.mp d with e | e <;>
    simp +contextual [Steady, Channel.right, Channel.driving, Channel.stopped, e]

/-- A demand fall in OVERTIME (R32). -/
theorem steady_overtime_recover (e : c.state = .overtime) (r : c.recoverTimer.isSome = true) :
    Steady c { c with state := .recover, demand := none } := by
  simp +contextual [Steady, Channel.right, Channel.driving, e, r]

theorem steady_overtime_off (e : c.state = .overtime) (r : c.recoverTimer = none) :
    Steady c { c with state := .off, demand := none } := by
  simp +contextual [Steady, Channel.right, Channel.driving, e, r]

/-- A demand remembered or given up in RECOVER (R34). -/
theorem steady_remembered (e : c.state = .recover) (g : Option Origin) : Steady c { c with remembered := g } := by
  simp +contextual [Steady, Channel.right, Channel.driving, e]

/-- The end of RECOVER (R34). -/
theorem steady_recovered (e : c.state = .recover) :
    Steady c { c with state := .off, recoverTimer := none, remembered := none } := by
  simp +contextual [Steady, Channel.right, Channel.driving, e]

/-- The recover timer's expiry in another state (R34). -/
theorem steady_unrecovered (e : c.state ≠ .recover) : Steady c { c with recoverTimer := none } := by
  simp +contextual [Steady, Channel.right, Channel.driving, e]

/-- The end of BOOST (R29). -/
theorem steady_boosted (e : c.state = .boost) :
    Steady c { c with state := .hold, boostTimer := none, holdPhase := 0 } := by
  simp +contextual [Steady, Channel.right, Channel.driving, e]

theorem steady_manual (m : Bool) : Steady c { c with manualDemand := m } := by
  simp [Steady, Channel.right, Channel.driving]

/-- A demand handover (R23). -/
theorem steady_handover (d : c.demand.isSome = true) (g : Origin) : Steady c { c with demand := some g } := by
  simp +contextual [Steady, Channel.right, Channel.driving, d]

theorem steady_handover_remembered (d : c.remembered.isSome = true) (g : Origin) :
    Steady c { c with remembered := some g } := by
  simp +contextual [Steady, Channel.right, Channel.driving, d]

end records

end Sys2Proof.Laws.Drive
end

section
/-! SUPPORT. What the drive, the scheduler and the channels do, operation by operation, as `Acts`. -/

namespace Sys2Proof.Laws.Drive

open Sys2Proof Sys2Proof.Machine Sys2Proof.Laws.Sets

/-! ## A place released, by the set and its grant list -/

theorem releasePlace_no_set {s : State} {o : Output} (h : (s.profile o).iset = none) : s.releasePlace o = s := by
  simp [State.releasePlace, h]

theorem releasePlace_nobody {s : State} {o : Output} {i : SetId} (h : (s.profile o).iset = some i)
    (g : (s.iset i).grants = []) :
    s.releasePlace o = s.setIset i { s.iset i with occupants := (s.iset i).occupants.erase o } := by
  simp [State.releasePlace, State.grantNext, h, g]

theorem releasePlace_granted {s : State} {o h : Output} {i : SetId} {rest : List Output}
    (e : (s.profile o).iset = some i) (g : (s.iset i).grants = h :: rest) :
    s.releasePlace o =
      (s.setIset i
        { s.iset i with
          occupants := insertOutput h ((s.iset i).occupants.erase o)
          grants := rest }).beginDrive h := by
  simp [State.releasePlace, State.grantNext, State.occupy, e, g]

/-! ## The sets and the channels through a rise, a withdrawal and a release -/

section drive

variable {s : State} {o : Output}

theorem Waits.not_drives {i : SetId} (h : Waits s i o) : ¬ Drives s i o := fun d => by
  have drove := d.2
  rw [not_driving_of_queued h.2] at drove
  cases drove

/-- A drive begins for a channel that neither drove nor waited, as an occupant of its set if it has one. -/
theorem SetsRight.drive {t : State} (h : SetsRight s) (out : standing (s.chan o) = (false, false))
    (profiles : t.profiles = s.profiles) (chan : standing (t.chan o) = (true, false))
    (others : ∀ p, p ≠ o → standing (t.chan p) = standing (s.chan p))
    (apart : ∀ j, (s.profile o).iset ≠ some j → t.iset j = s.iset j)
    (own : ∀ i, (s.profile o).iset = some i →
      (s.iset i).room = true ∧ t.iset i = { s.iset i with occupants := insertOutput o (s.iset i).occupants }) :
    SetsRight t := by
  simp only [standing, Prod.mk.injEq, decide_eq_false_iff_not] at out chan
  refine h.change (o := o) profiles (fun p ne => others p fun e => ne (e ▸ rfl)) apart (fun i m => ?_)
    (fun none p pn q => ?_)
  · obtain ⟨room, e⟩ := own i m
    rw [e]
    refine ((setRight_iff s i).mp (h.1 i)).enter room (fun d => by simp [d.2] at out) (fun p => ?_) (fun p => ?_)
    · by_cases e : p = o
      · subst e; simp [Drives, profile_of_profiles profiles, m, chan]
      · simpa [e] using drives_iff_of_standing profiles fun _ => others p e
    · by_cases e : p = o
      · subst e; simp [Waits, chan, out]
      · exact waits_iff_of_standing profiles fun _ => others p e
  · by_cases e : p = o
    · subst e; exact chan.2 q
    · exact h.2 p (((standing_eq_iff ..).mp (others p e)).2.mp q) pn

/-- The sets and the channels after a demand rise in OFF (R24, R94). -/
theorem riseFromOff_drive (h : SetsRight s) (off : (s.chan o).state = .off) (g : Origin) :
    SetsRight (s.riseFromOff o g).2 ∧ ∀ p, Steady (s.chan p) ((s.riseFromOff o g).2.chan p) := by
  have out : standing (s.chan o) = (false, false) := by simp [standing, Channel.driving, off]
  have drove : ∀ c : Channel, standing (begun c s.now (s.profile o)) = (true, false) := fun c => by
    simp [standing, begun_driving, begun_not_queued]
  unfold State.riseFromOff
  dsimp only
  split
  · rename_i noSet
    refine ⟨h.drive out (by rw [beginDrive_profiles]; rfl) ?_ (fun p ne => ?_) (fun j _ => by rw [beginDrive_iset]; rfl)
      (fun i m => by simp [noSet] at m), fun p => ?_⟩
    · rw [beginDrive_chan]; simpa using drove _
    · rw [beginDrive_chan]; simp [ne, State.setChan_chan]
    · rw [beginDrive_chan]
      split
      · rename_i e; subst e; simpa using steady_rise off g _ _
      · rename_i e; simp [State.setChan_chan, e, Steady.refl]
  · rename_i i m
    split
    · rename_i room
      refine ⟨h.drive out (by rw [beginDrive_profiles]; rfl) ?_ (fun p ne => ?_) (fun j apart => ?_) (fun j mj => ?_),
        fun p => ?_⟩
      · rw [beginDrive_chan]; simpa [State.occupy] using drove _
      · rw [beginDrive_chan]; simp [ne, State.setChan_chan, State.occupy]
      · have ne : j ≠ i := fun e => apart (e ▸ m)
        rw [beginDrive_iset]; simp [State.occupy, State.setIset_iset, ne]
      · cases m.symm.trans mj
        rw [beginDrive_iset]; exact ⟨room, by simp [State.occupy]⟩
      · rw [beginDrive_chan]
        split
        · rename_i e; subst e; simpa [State.occupy] using steady_rise off g _ _
        · rename_i e; simp [State.setChan_chan, State.occupy, e, Steady.refl]
    · rename_i noRoom
      simp only [Bool.not_eq_true] at noRoom
      simp only [standing, Prod.mk.injEq, decide_eq_false_iff_not] at out
      split
      · refine ⟨h.change (o := o) rfl (fun p ne => ?_) (fun j apart => ?_) (fun j mj => ?_)
          (fun none => by simp [none] at m), fun p => ?_⟩
        · have : p ≠ o := fun e => ne (e ▸ rfl)
          simp [State.setChan_chan, State.joinGrants, this]
        · have ne : j ≠ i := fun e => apart (e ▸ m)
          simp [State.joinGrants, State.setIset_iset, ne]
        · cases m.symm.trans mj
          simp only [State.joinGrants, State.setChan_iset, State.setIset_iset_self]
          refine ((setRight_iff s i).mp (h.1 i)).join noRoom (fun w => out.2 w.2) (fun p => ?_) (fun p => ?_)
          · by_cases e : p = o
            · subst e; simp [Drives, Channel.driving, off]
            · simp [Drives, State.setChan_chan, e]
          · by_cases e : p = o
            · subst e; simp [Waits, m]
            · simp [Waits, State.setChan_chan, e]
        · rw [State.setChan_chan]
          split
          · rename_i e; subst e; exact steady_wait off g _
          · rename_i e; simp [State.joinGrants, State.setChan_chan, e, Steady.refl]
      · have chan : ∀ p, (((s.setChan o { s.chan o with demand := some g }).captureConflict o i g).setChan o
            { s.chan o with demand := none }).chan p =
            if p = o then { s.chan o with demand := none } else s.chan p := fun p => by
          rw [captureConflict_frame, State.setChan_chan]
          split
          · rfl
          · rename_i e; exact (State.setChan_chan ..).trans (if_neg e)
        refine ⟨h.congr (by rw [captureConflict_frame]; rfl) (by rw [captureConflict_frame]; rfl) fun p => ?_,
          fun p => ?_⟩ <;> dsimp only <;> rw [chan] <;> split
        · rename_i e; subst e; exact standing_of_state rfl
        · rfl
        · rename_i e; subst e; exact steady_refused off
        · exact Steady.refl _

/-- The sets after a channel in QUEUED has left its grant list (R97). -/
theorem withdraw_sets (h : SetsRight s) (queued : (s.chan o).state = .queued) {c : Channel}
    (out : standing c = (false, false)) : SetsRight ((s.withdraw o).setChan o c) := by
  simp only [standing, Prod.mk.injEq, decide_eq_false_iff_not] at out
  obtain ⟨i, m⟩ := Option.ne_none_iff_exists'.mp (h.2 o queued)
  have e : s.withdraw o = s.leaveGrants i o := by simp [State.withdraw, m]
  rw [e]
  refine h.change (o := o) rfl (fun p ne => ?_) (fun j apart => ?_) (fun j mj => ?_) (fun none => by simp [none] at m)
  · have : p ≠ o := fun e => ne (e ▸ rfl)
    simp [State.setChan_chan, State.leaveGrants, this]
  · have ne : j ≠ i := fun e => apart (e ▸ m)
    simp [State.leaveGrants, State.setIset_iset, ne]
  · cases m.symm.trans mj
    simp only [State.leaveGrants, State.setChan_iset, State.setIset_iset_self]
    refine ((setRight_iff s i).mp (h.1 i)).leave (fun p => ?_) (fun p => ?_)
    · by_cases e : p = o
      · subst e; simp [Drives, out, not_driving_of_queued queued]
      · simp [Drives, State.setChan_chan, e]
    · by_cases e : p = o
      · subst e; simp [Waits, out]
      · simp [Waits, State.setChan_chan, e]

theorem withdraw_chan (s : State) (o p : Output) : (s.withdraw o).chan p = s.chan p := by
  unfold State.withdraw
  split <;> rfl

/-- The sets and the channels after an occupant's channel has stopped and its place has gone to the head of the grant
list (R95, R96). -/
theorem release_drive (h : SetsRight s) (drove : (s.chan o).driving = true) {c : Channel}
    (out : standing c = (false, false)) :
    SetsRight ((s.setChan o c).releasePlace o) ∧ ((s.setChan o c).releasePlace o).chan o = c ∧
      ∀ p, p ≠ o → Steady (s.chan p) (((s.setChan o c).releasePlace o).chan p) := by
  simp only [standing, Prod.mk.injEq, decide_eq_false_iff_not] at out
  have stay : ∀ p, p ≠ o → (s.setChan o c).chan p = s.chan p := fun p ne => by simp [State.setChan_chan, ne]
  cases m : (s.profile o).iset with
  | none =>
    rw [releasePlace_no_set (s := s.setChan o c) m]
    refine ⟨h.change (o := o) rfl (fun p ne => ?_) (fun j _ => rfl) (fun i mi => by simp [m] at mi)
      (fun _ p pn q => ?_), by simp, fun p ne => by rw [stay p ne]; exact .refl _⟩
    · have : p ≠ o := fun e => ne (e ▸ rfl)
      rw [stay p this]
    · by_cases e : p = o
      · subst e; exact out.2 (by simpa using q)
      · rw [stay p e] at q; exact h.2 p q pn
  | some i =>
    have fits := (setRight_iff s i).mp (h.1 i)
    have notSelf : ∀ j, (s.profile o).iset ≠ some j → j ≠ i := fun j apart e => apart (e ▸ m)
    cases g : (s.iset i).grants with
    | nil =>
      rw [releasePlace_nobody (s := s.setChan o c) m g]
      refine ⟨h.change (o := o) rfl (fun p ne => ?_) (fun j apart => ?_) (fun j mj => ?_)
        (fun none => by simp [none] at m), by simp, fun p ne => ?_⟩
      · have : p ≠ o := fun e => ne (e ▸ rfl)
        simp [stay p this]
      · simp [State.setIset_iset, notSelf j apart]
      · cases m.symm.trans mj
        simp only [State.setIset_iset_self, State.setChan_iset]
        refine fits.vacate g (fun p => ?_) (fun p => ?_)
        · by_cases e : p = o
          · subst e; simp [Drives, out]
          · simp [Drives, stay p e, e]
        · by_cases e : p = o
          · subst e
            have : (s.chan p).state ≠ .queued := fun q => by simp [not_driving_of_queued q] at drove
            simp [Waits, out, this]
          · simp [Waits, stay p e]
      · simp only [State.setIset_chan, stay p ne]; exact .refl _
    | cons w rest =>
      have waits : Waits s i w := (fits.grants w).mp (by simp [g])
      have ne : w ≠ o := fun e => by rw [← e, not_driving_of_queued waits.2] at drove; exact absurd drove (by simp)
      rw [releasePlace_granted (s := s.setChan o c) m g]
      have chan : ∀ p, p ≠ o → p ≠ w →
          ((((s.setChan o c).setIset i { (s.setChan o c).iset i with
            occupants := insertOutput w (((s.setChan o c).iset i).occupants.erase o), grants := rest }).beginDrive
              w).chan p) = s.chan p := fun p po pw => by
        rw [beginDrive_chan, if_neg pw]; exact stay p po
      refine ⟨h.change (o := o) (by rw [beginDrive_profiles]; rfl) (fun p pe => ?_) (fun j apart => ?_)
        (fun j mj => ?_) (fun none => by simp [none] at m), ?_, fun p po => ?_⟩
      · have po : p ≠ o := fun e => pe (e ▸ rfl)
        have pw : p ≠ w := fun e => pe (e ▸ waits.1.trans m.symm)
        rw [chan p po pw]
      · rw [beginDrive_iset]; simp [State.setIset_iset, notSelf j apart]
      · cases m.symm.trans mj
        rw [beginDrive_iset, State.setIset_iset_self]
        refine fits.handOn g ⟨m, drove⟩ waits.not_drives (fun p => ?_) (fun p => ?_)
        · unfold Drives
          rw [profile_of_profiles (by rw [beginDrive_profiles]; rfl : _ = s.profiles)]
          by_cases pw : p = w
          · subst pw; rw [beginDrive_chan]; simp [begun_driving, waits.1]
          · by_cases po : p = o
            · subst po; rw [beginDrive_chan]; simp [out, pw]
            · rw [chan p po pw]; simp [po, pw]
        · unfold Waits
          rw [profile_of_profiles (by rw [beginDrive_profiles]; rfl : _ = s.profiles)]
          by_cases pw : p = w
          · subst pw; rw [beginDrive_chan]; simp [begun_not_queued]
          · by_cases po : p = o
            · subst po
              have : (s.chan p).state ≠ .queued := fun q => by simp [not_driving_of_queued q] at drove
              rw [beginDrive_chan]; simp [out, pw, this]
            · rw [chan p po pw]; simp [pw]
      · rw [beginDrive_chan, if_neg ne.symm]; simp
      · by_cases pw : p = w
        · subst pw
          rw [beginDrive_chan, if_pos rfl]
          have e : (((s.setChan o c).setIset i { (s.setChan o c).iset i with
            occupants := insertOutput p (((s.setChan o c).iset i).occupants.erase o), grants := rest }).chan p) =
              s.chan p := stay p po
          rw [e]
          exact steady_grant waits.2 _ _
        · rw [chan p po pw]; exact .refl _

end drive

end Sys2Proof.Laws.Drive
end

section
/-! SUPPORT. Every operation of the channels, the sets, the queues and the passes as `Acts`: what it leaves alone, and that
it keeps the sets right and every channel steady. -/

namespace Sys2Proof.Laws.Drive

open Sys2Proof Sys2Proof.Machine Sys2Proof.Laws.Sets

/-- An operation that keeps the outside fields, the sets right and every channel steady, and sets a pass only where `W`
allows it. -/
structure Acts (W : Output → Prop) (s t : State) : Prop extends Calm W s t where
  drive : SetsRight s → SetsRight t ∧ ∀ o, Steady (s.chan o) (t.chan o)

section primitive

variable {W : Output → Prop} {s t u : State}

theorem Acts.refl : Acts W s s := ⟨.refl, fun h => ⟨h, fun _ => .refl _⟩⟩

theorem Acts.trans (a : Acts W s t) (b : Acts W t u) : Acts W s u :=
  ⟨a.toCalm.trans b.toCalm, fun h =>
    have ⟨ht, st⟩ := a.drive h
    have ⟨hu, tu⟩ := b.drive ht
    ⟨hu, fun o => (st o).trans (tu o)⟩⟩

/-- The channels and the sets stay. -/
theorem Acts.of_calm (c : Calm W s t) (channels : t.channels = s.channels) (isets : t.isets = s.isets) : Acts W s t :=
  ⟨c, fun h => ⟨h.congr (outside_profiles c.outside) isets fun p => by rw [chan_of_channels channels], fun o => by
    rw [chan_of_channels channels]; exact .refl _⟩⟩

theorem Acts.foldl {α : Type} {f : State → α → State} (h : ∀ s a, Acts W s (f s a)) (l : List α) (s : State) :
    Acts W s (l.foldl f s) := by
  induction l generalizing s with
  | nil => exact .refl
  | cons a l ih => exact (h s a).trans (ih _)

/-- A channel's record is rewritten, and it drives or waits as before. -/
theorem Acts.chan {o : Output} {c : Channel} (same : standing c = standing (s.chan o))
    (steady : Steady (s.chan o) c) : Acts W s (s.setChan o c) :=
  ⟨.chan .., fun h => ⟨h.congr rfl rfl fun p => by
      rw [State.setChan_chan]; split
      · rename_i e; rw [e, same]
      · rfl,
    fun p => by
      rw [State.setChan_chan]; split
      · rename_i e; rw [e]; exact steady
      · exact .refl _⟩⟩

theorem Acts.queue (o : Output) (q : List Entry) : Acts W s (s.setQueue o q) := .of_calm (.queue ..) rfl rfl

theorem Acts.pass (o : Output) (p : Option Pass) (h : p = none ∨ W o) : Acts W s (s.setPass o p) :=
  .of_calm (.pass o p h) rfl rfl

theorem Acts.post (b : NoticeBody) : Acts W s (s.post b) := by
  refine .of_calm (.post b) ?_ ?_ <;> rw [post_frame]

theorem Acts.takePick : Acts W s s.takePick.2 := by
  rw [takePick_frame]; exact .of_calm (.of_cam rfl rfl) rfl rfl

theorem Acts.arrange {α : Type} (xs : List α) : Acts W s (arrange xs s).2 := by
  rw [arrange_frame]; exact .of_calm (.of_cam rfl rfl) rfl rfl

theorem Acts.lookDrops (e : Entry) : Acts W s (s.lookDrops e).2 := by
  rw [lookDrops_frame]; exact .of_calm (.of_cam rfl rfl) rfl rfl

theorem lookDrops_chan (s : State) (e : Entry) (o : Output) : (s.lookDrops e).2.chan o = s.chan o := by
  rw [lookDrops_frame]; rfl

end primitive

section operations

variable {W : Output → Prop} {s : State} {o : Output}

/-! ## Scheduler -/

theorem Acts.postShotEnd (e : Entry) (r : ShotEnd) : Acts W s (s.postShotEnd o e r) := by
  unfold State.postShotEnd
  split
  · exact .post _
  · exact .refl

theorem Acts.postShotDropped (e : Entry) (r : ShotDrop) : Acts W s (s.postShotDropped o e r) := .post _

theorem Acts.riseFromOff (off : (s.chan o).state = .off) (g : Origin) : Acts W s (s.riseFromOff o g).2 :=
  ⟨.riseFromOff .., fun h => riseFromOff_drive h off g⟩

theorem off_of_channelFree (h : s.channelFree o = true) : (s.chan o).state = .off := by
  simp only [State.channelFree, Bool.and_eq_true, decide_eq_true_eq] at h
  exact h.1

theorem Acts.fireHead (off : (s.chan o).state = .off) (e : Entry) (rest : List Entry) :
    Acts W s (s.fireHead o e rest).2 := by
  have rise : Acts W s (s.riseFromOff o (.shot e.tag)).2 := .riseFromOff off _
  unfold State.fireHead
  split <;> (rename_i r; rw [r] at rise)
  · exact rise.trans (.queue ..)
  · exact rise.trans (.queue ..)
  · exact (rise.trans (.queue ..)).trans (.postShotDropped ..)

theorem Acts.lookN (n : Nat) : Acts W s (lookN n o s) := by
  induction n generalizing s with
  | zero => exact .refl
  | succ n ih =>
    unfold Machine.lookN
    split
    · rename_i free
      have off := off_of_channelFree free
      split
      · exact .refl
      · rename_i e rest _
        have fire : Acts W s (s.fireHead o e rest).2 := .fireHead off ..
        have pick : Acts W s (s.lookDrops e).2 := .lookDrops e
        have offPick := (congrArg Channel.state (lookDrops_chan s e o)).trans off
        split
        · split <;> (rename_i d; rw [d] at pick offPick)
          · exact ((pick.trans (.queue ..)).trans (.postShotDropped ..)).trans ih
          · have firePick := pick.trans (Acts.fireHead offPick e rest)
            split <;> (rename_i f; rw [f] at firePick)
            · exact firePick.trans ih
            · exact firePick
        · split
          · split <;> (rename_i f; rw [f] at fire)
            · exact fire.trans ih
            · exact fire
          · exact .refl
        · exact .refl
    · exact .refl

theorem Acts.look : Acts W s (s.look o) := .lookN _

theorem Acts.reportFree : Acts W s (s.reportFree o) := by
  unfold State.reportFree
  split
  · exact .look
  · exact .refl

theorem Acts.purgeQueues (os : List Output) : Acts W s (s.purgeQueues os).2 := by
  have : ∀ (os : List Output) (n : Nat) (s : State),
      Acts W s (os.foldl (fun r o => ((r.1 + (r.2.purgeQueue o).1), (r.2.purgeQueue o).2)) (n, s)).2 := by
    intro os
    induction os with
    | nil => intro n s; exact .refl
    | cons o os ih => intro n s; exact (Acts.queue ..).trans (ih _ _)
  exact this os 0 s

/-! ## Channels -/

theorem Acts.reportEnded (d : Option Origin) : Acts W s (s.reportEnded o d) := by
  unfold State.reportEnded
  split
  · split
    · split
      · exact (Acts.queue ..).trans (.postShotEnd ..)
      · exact .refl
    · exact .refl
  · exact .pass _ _ (.inl rfl)
  · exact .refl
  · exact .refl

theorem Acts.setManual (m : Bool) : Acts W s (s.setChan o { s.chan o with manualDemand := m }) :=
  .chan (standing_of_state rfl) (steady_manual m)

theorem Acts.reportRefused (d : Option Origin) : Acts W s (s.reportRefused o d) := by
  unfold State.reportRefused
  split
  · split
    · exact ((Acts.queue ..).trans (.postShotDropped ..)).trans .reportFree
    · exact .refl
  · split
    · exact (Acts.pass _ _ (.inl rfl)).trans (.post _)
    · exact .refl
  · exact (Acts.setManual false).trans (.post _)
  · exact .refl

theorem Acts.demandRise (g : Origin) : Acts W s (s.demandRise o g) := by
  unfold State.demandRise
  split
  · rename_i off
    have rise : Acts W s (s.riseFromOff o g).2 := .riseFromOff off g
    split <;> (rename_i r; rw [r] at rise)
    · exact rise.trans (.reportRefused _)
    · exact rise
  · rename_i recover
    exact .chan (standing_of_state rfl) (steady_remembered recover _)
  · exact .reportEnded _
  · exact .refl

theorem Acts.demandHandover (slot : Slot) : Acts W s (s.demandHandover o slot) := by
  unfold State.demandHandover
  dsimp only
  split
  · rename_i d; exact .chan (standing_of_state rfl) (steady_handover d _)
  · split
    · rename_i d; exact .chan (standing_of_state rfl) (steady_handover_remembered d _)
    · exact .refl

/-- A channel in QUEUED leaves its grant list and gives its demand up. -/
theorem Acts.withdraw (queued : (s.chan o).state = .queued) :
    Acts W s ((s.withdraw o).setChan o { s.chan o with state := .off, demand := none, deferTimer := none }) := by
  refine ⟨(Calm.withdraw o).trans (.chan ..), fun h =>
    ⟨withdraw_sets h queued (by simp [standing, Channel.driving]), fun p => ?_⟩⟩
  rw [State.setChan_chan, withdraw_chan]
  split
  · rename_i e; rw [e]; exact steady_unqueued queued
  · exact .refl _

/-- A drive stops, and the place goes on. -/
theorem Acts.stopDrive {f : Channel → Channel} (drove : (s.chan o).driving = true)
    (out : standing (f ((s.chan o).stopped s.now (s.profile o).minOff)) = (false, false))
    (steady : Steady (s.chan o) (f ((s.chan o).stopped s.now (s.profile o).minOff))) :
    Acts W s (s.stopDrive o f) :=
  ⟨(Calm.chan ..).trans (.releasePlace _), fun h =>
    have ⟨sets, own, others⟩ := release_drive h drove out
    ⟨sets, fun p => by
      by_cases e : p = o
      · subst e; exact own ▸ steady
      · exact others p e⟩⟩

theorem Acts.demandFall : Acts W s (s.demandFall o).2 := by
  have stop : (s.chan o).driving = true → Acts W s
      (if (s.profile o).minOff = 0 then
        (false, (s.stopDrive o fun c => { c with state := .off, demand := none }).reportFree o)
      else (false, s.stopDrive o fun c => { c with state := .recover, demand := none })).2 := fun drove => by
    split
    · rename_i m
      refine Acts.trans (.stopDrive drove (by simp [standing, Channel.driving]) ?_) .reportFree
      rw [m]; exact steady_stopped_off drove _
    · rename_i m
      exact .stopDrive (f := fun c => { c with state := .recover, demand := none }) drove
        (by simp [standing, Channel.driving]) (steady_stopped_recover drove _ m)
  unfold State.demandFall
  dsimp only
  split
  · rename_i queued; exact (Acts.withdraw queued).trans .reportFree
  · rename_i e; exact stop (by simp [Channel.driving, e])
  · rename_i e; exact stop (by simp [Channel.driving, e])
  · rename_i e
    split
    · rename_i r
      exact .chan (by simp [standing, Channel.driving, e]) (steady_overtime_recover e r)
    · rename_i r
      exact (Acts.chan (by simp [standing, Channel.driving, e]) (steady_overtime_off e (by simpa using r))).trans
        .reportFree
  · rename_i recover; exact .chan (standing_of_state rfl) (steady_remembered recover _)
  · exact .refl
  · exact .refl

theorem Acts.boostExpiry : Acts W s (s.boostExpiry o) := by
  unfold State.boostExpiry
  dsimp only
  split
  · rename_i h; exact .chan (by simp [standing, Channel.driving, h.2]) (steady_boosted h.2)
  · exact .refl

theorem Acts.maxOnExpiry : Acts W s (s.maxOnExpiry o) := by
  unfold State.maxOnExpiry
  dsimp only
  split
  · rename_i h
    exact (Acts.stopDrive h.2 (by simp [standing, Channel.driving]) (steady_cut h.2 _ _)).trans (.post _)
  · exact .refl

theorem Acts.recoverExpiry : Acts W s (s.recoverExpiry o) := by
  unfold State.recoverExpiry
  dsimp only
  split
  · split
    · rename_i recover
      have off : Acts W s (s.setChan o { s.chan o with state := .off, recoverTimer := none, remembered := none }) :=
        .chan (by simp [standing, Channel.driving, recover]) (steady_recovered recover)
      split
      · exact off.trans (.demandRise _)
      · exact off.trans .reportFree
    · rename_i other; exact .chan (standing_of_state rfl) (steady_unrecovered other)
  · exact .refl

/-- The defer timer's expiry in QUEUED: a withdrawal, with a conflict captured beside it, and the report. -/
theorem deferExpiry_due (W : Output → Prop) {s : State} {o : Output}
    (h : timerDue s.now (s.chan o).deferTimer = true ∧ (s.chan o).state = .queued) :
    ∃ u : State,
      s.deferExpiry o =
        (u.setChan o { s.chan o with state := .off, demand := none, deferTimer := none }).reportRefused o
          (s.chan o).demand ∧
      Calm W (s.withdraw o) u ∧ u.channels = (s.withdraw o).channels ∧ u.isets = (s.withdraw o).isets := by
  unfold State.deferExpiry
  dsimp only
  rw [if_pos h]
  refine ⟨_, rfl, ?_⟩
  unfold State.withdraw
  cases (s.profile o).iset with
  | none => exact ⟨.refl, rfl, rfl⟩
  | some i =>
    cases (s.chan o).demand with
    | none => exact ⟨.refl, rfl, rfl⟩
    | some g => exact ⟨.captureConflict .., by dsimp only; rw [captureConflict_frame],
        by dsimp only; rw [captureConflict_frame]⟩

theorem Acts.deferExpiry : Acts W s (s.deferExpiry o) := by
  by_cases h : timerDue s.now (s.chan o).deferTimer = true ∧ (s.chan o).state = .queued
  · obtain ⟨u, e, conflict, channels, isets⟩ := deferExpiry_due W h
    rw [e]
    refine Acts.trans ⟨((Calm.withdraw o).trans conflict).trans (.chan ..), fun r => ?_⟩ (.reportRefused _)
    obtain ⟨sets, steady⟩ := (Acts.withdraw (W := W) h.2).drive r
    have chan : ∀ p c, (u.setChan o c).chan p = ((s.withdraw o).setChan o c).chan p := fun p c => by
      rw [State.setChan_chan, State.setChan_chan, chan_of_channels channels]
    exact ⟨sets.congr (outside_profiles conflict.outside) isets (fun p => by rw [chan]), fun p => by
      rw [chan]; exact steady p⟩
  · unfold State.deferExpiry
    dsimp only
    rw [if_neg h]
    exact .refl

/-! ## Shot orders and events -/

theorem Acts.enterQueue (e : Entry) : Acts W s (s.enterQueue o e) := by
  unfold State.enterQueue
  dsimp only
  split
  · exact (Acts.queue ..).trans .look
  · exact .queue ..

theorem Acts.book {f : ShotFields} {start : Time} {t : State} (h : s.book f = .ok (o, start, t)) : Acts W s t := by
  unfold State.book at h
  split at h
  · cases h
  · split at h
    · cases h
    · split at h
      · cases h
      · simp only [Except.ok.injEq, Prod.mk.injEq] at h
        rw [← h.2.2]
        exact .enterQueue _

theorem Acts.bookBatch (fs : List ShotFields) (n : Nat) : Acts W s (bookBatch fs n s).1 := by
  induction fs generalizing n s with
  | nil => exact .refl
  | cons f fs ih =>
    unfold Machine.bookBatch
    split
    · rename_i h; exact (Acts.book h).trans (ih _)
    · exact .refl

theorem Acts.ownShot (f : ShotFields) : Acts W s (ownShot f s).state := by
  unfold Machine.ownShot
  split
  · exact .refl
  · split
    · exact .refl
    · exact .refl
    · rename_i h; exact .book h

theorem Acts.ownShots (fs : List ShotFields) : Acts W s (ownShots fs s).state := by
  have batch : Acts W s (Machine.bookBatch fs 0 s).1 := .bookBatch ..
  unfold Machine.ownShots
  split
  · exact .refl
  · split <;> (rename_i h; rw [h] at batch; exact batch)

theorem Acts.cancelQueues (f : CancelFields) : Acts W s (s.cancelQueues f).2 := by
  have : ∀ (os : List Output) (n : Nat) (s : State),
      Acts W s (os.foldl (fun r o => (r.1 + (r.2.cancelQueue f o).1, (r.2.cancelQueue f o).2)) (n, s)).2 := by
    intro os
    induction os with
    | nil => intro n s; exact .refl
    | cons o os ih =>
      intro n s
      exact ((Acts.queue ..).trans (.foldl (fun _ _ => .postShotEnd ..) _ _)).trans (ih _ _)
  exact this f.outputs 0 s

theorem Acts.cancelHead (f : CancelFields) (before : State) : Acts W s (s.cancelHead f before o) := by
  unfold State.cancelHead
  split
  · split
    · split
      · exact .demandFall
      · exact .look
    · exact .refl
  · exact .refl

theorem Acts.ownCancel (f : CancelFields) : Acts W s (ownCancel f s).state := by
  unfold Machine.ownCancel
  split
  · exact .refl
  · exact (Acts.cancelQueues f).trans (.foldl (fun _ _ => .cancelHead ..) _ _)

theorem Acts.startDue (start : Time) : Acts W s (s.startDue o start) := by
  unfold State.startDue
  split
  · split
    · rename_i e rest _
      split
      · rename_i free
        have fire : Acts W s (s.fireHead o e rest).2 := .fireHead (off_of_channelFree free.2) ..
        split <;> (rename_i f; rw [f] at fire)
        · exact fire.trans .look
        · exact fire
      · exact .queue ..
    · exact .refl
  · exact .refl

theorem Acts.dropDue (start : Time) : Acts W s (s.dropDue o start) := by
  unfold State.dropDue
  split
  · split
    · exact (Acts.queue ..).trans (.postShotDropped ..)
    · exact .refl
  · exact .refl

theorem Acts.endDue : Acts W s (s.endDue o) := by
  unfold State.endDue
  split
  · split
    · split
      · exact ((Acts.queue ..).trans (.postShotEnd ..)).trans .demandFall
      · exact .refl
    · exact .refl
  · exact .refl

/-! ## MANUAL -/

theorem Acts.takeManual (on : Bool) : Acts W s (s.takeManual o on) := by
  unfold State.takeManual
  split
  · exact .refl
  · split
    · exact (Acts.setManual true).trans (.demandRise _)
    · exact (Acts.setManual false).trans .demandFall

theorem Acts.ownManual (f : Output × Bool) : Acts W s (ownManual f s).state := by
  unfold Machine.ownManual
  split
  · exact .refl
  · split
    · exact .refl
    · split
      · exact .refl
      · exact .takeManual _

/-! ## The Cam Unit's moves, whose passes stand on cam outputs -/

theorem Acts.camFall : Acts W s (s.camFall o) := by
  unfold State.camFall
  split
  · have fall : Acts W (s.setPass o none) ((s.setPass o none).demandFall o).2 := .demandFall
    split <;> (rename_i w; rw [w] at fall)
    · exact ((Acts.pass _ _ (.inl rfl)).trans fall).trans (.post _)
    · exact (Acts.pass _ _ (.inl rfl)).trans fall
  · exact .refl

theorem Acts.firstRound {m : Output × CamMove} (w : W m.1) : Acts W s (s.firstRound m) := by
  unfold State.firstRound
  split
  · exact .pass _ _ (.inr w)
  · exact (Acts.pass _ _ (.inr w)).trans (.demandHandover _)
  · exact .camFall
  · exact .refl

theorem Acts.secondRound {m : Output × CamMove} (w : W m.1) : Acts W s (s.secondRound m) := by
  unfold State.secondRound
  split
  · exact (Acts.pass _ _ (.inr w)).trans (.demandRise _)
  · exact .refl

theorem Acts.foldl_mem {α : Type} {f : State → α → State} (l : List α) (h : ∀ s, ∀ a ∈ l, Acts W s (f s a))
    (s : State) : Acts W s (l.foldl f s) := by
  induction l generalizing s with
  | nil => exact .refl
  | cons a l ih => exact (h s a (by simp)).trans (ih (fun s b m => h s b (by simp [m])) _)

/-- The rounds set passes on cam outputs alone. -/
theorem Acts.camRounds (d : Output → CamMove) : Acts (fun o => (s.profile o).source = .cam) s (s.camRounds d) := by
  have cam : ∀ m ∈ s.camOutputs.map fun o => (o, d o), (s.profile m.1).source = .cam := by
    intro m mem
    obtain ⟨o, mo, rfl⟩ := List.mem_map.mp mem
    simpa [State.camOutputs] using (List.mem_filter.mp mo).2
  exact (Acts.foldl_mem _ (fun _ m mem => .firstRound (cam m mem)) _).trans
    (.foldl_mem _ (fun _ m mem => .secondRound (cam m mem)) _)

theorem Acts.endPasses : Acts W s s.endPasses := .foldl (fun _ _ => .camFall) _ _

end operations

end Sys2Proof.Laws.Drive
end

section
/-! SUPPORT. The inhibits: what a report of a mode or group change does to the channels it reaches (R21, R35, R36), and what
the trip groups' moves uphold (`Upholds`): the mode, the tracker, the profiles and the cam tables stay, and the sets, the
channels and the inhibits are right again at their end. -/

namespace Sys2Proof.Laws.Drive

open Sys2Proof Sys2Proof.Machine Sys2Proof.Laws.Sets

/-! ## One report -/

/-- One channel is turned into or out of INHIBITED; the other channels are steady. -/
structure Turned (o : Output) (inhibited : Prop) (s t : State) : Prop extends Calm (fun _ => False) s t where
  drive : SetsRight s → SetsRight t ∧ ((t.chan o).state = .inhibited ↔ inhibited) ∧
    ((s.chan o).right → (t.chan o).right) ∧ ∀ p, p ≠ o → Steady (s.chan p) (t.chan p)

section turned

variable {s t u : State} {o : Output} {inhibited : Prop}

/-- A report to a demand's origin, or a look, after the turn. -/
theorem Turned.acts (a : Turned o inhibited s t) (b : Acts (fun _ => False) t u) : Turned o inhibited s u :=
  ⟨a.toCalm.trans b.toCalm, fun h =>
    have ⟨sets, turned, right, others⟩ := a.drive h
    have ⟨setsAfter, steady⟩ := b.drive sets
    ⟨setsAfter, (steady o).1.trans turned, (steady o).2 ∘ right, fun p ne => (others p ne).trans (steady p)⟩⟩

/-- A channel outside its set is turned. -/
theorem Turned.chan {c : Channel} (same : standing c = standing (s.chan o)) (turned : c.state = .inhibited ↔ inhibited)
    (right : (s.chan o).right → c.right) : Turned o inhibited s (s.setChan o c) := by
  refine ⟨.chan .., fun h => ⟨h.congr rfl rfl fun p => ?_, by simpa using turned, by simpa using right, fun p ne => ?_⟩⟩
  · rw [State.setChan_chan]; split
    · rename_i e; rw [e, same]
    · rfl
  · rw [State.setChan_chan, if_neg ne]; exact .refl _

theorem Turned.withdraw {c : Channel} (queued : (s.chan o).state = .queued) (out : c.state = .inhibited)
    (right : (s.chan o).right → c.right) : Turned o True s ((s.withdraw o).setChan o c) := by
  refine ⟨(Calm.withdraw o).trans (.chan ..), fun h =>
    ⟨withdraw_sets h queued (by simp [standing, Channel.driving, out]), by simp [out], by simpa using right,
      fun p ne => ?_⟩⟩
  rw [State.setChan_chan, if_neg ne, withdraw_chan]
  exact .refl _

theorem Turned.stopDrive {f : Channel → Channel} (drove : (s.chan o).driving = true)
    (out : (f ((s.chan o).stopped s.now (s.profile o).minOff)).state = .inhibited)
    (right : (s.chan o).right → (f ((s.chan o).stopped s.now (s.profile o).minOff)).right) :
    Turned o True s (s.stopDrive o f) :=
  ⟨(Calm.chan ..).trans (.releasePlace _), fun h =>
    have ⟨sets, own, others⟩ := release_drive h drove (by simp [standing, Channel.driving, out])
    ⟨sets, by simp [State.stopDrive, own, out], fun r => own ▸ right r, others⟩⟩

/-- Inhibit on (R35). -/
theorem inhibitOn_turned (s : State) (o : Output) : Turned o True s (s.inhibitOn o) := by
  have stop : (s.chan o).driving = true → Turned o True s
      ((s.stopDrive o fun c => { c with state := .inhibited, demand := none, manualDemand := false }).reportEnded o
        (s.chan o).demand) := fun drove => by
    refine Turned.acts (.stopDrive drove rfl ?_) (.reportEnded _)
    rcases driving_iff.mp drove with e | e <;>
      simp +contextual [Channel.right, Channel.driving, Channel.stopped, e]
  unfold State.inhibitOn
  dsimp only
  split
  · rename_i e
    exact .chan (by simp [standing, Channel.driving, e]) (by simp) (by
      simp +contextual [Channel.right, Channel.driving, e])
  · rename_i e
    exact Turned.acts (.chan (by simp [standing, Channel.driving, e]) (by simp) (by
      simp +contextual [Channel.right, Channel.driving, e])) (.reportEnded _)
  · rename_i e
    exact Turned.acts (.withdraw e rfl (by simp +contextual [Channel.right, Channel.driving, e])) (.reportEnded _)
  · rename_i e; exact stop (by simp [Channel.driving, e])
  · rename_i e; exact stop (by simp [Channel.driving, e])
  · rename_i e
    exact Turned.acts (.chan (by simp [standing, Channel.driving, e]) (by simp) (by
      simp +contextual [Channel.right, Channel.driving, e])) (.reportEnded _)
  · rename_i e
    exact ⟨.refl, fun h => ⟨h, by simp [e], id, fun _ _ => .refl _⟩⟩

/-- Inhibit off (R36). -/
theorem inhibitOff_turned {s : State} {o : Output} (e : (s.chan o).state = .inhibited) :
    Turned o False s (s.inhibitOff o) := by
  unfold State.inhibitOff
  dsimp only
  split
  · rename_i r
    exact .chan (by simp [standing, Channel.driving, e]) (by simp) (by
      simp +contextual [Channel.right, Channel.driving, e, r])
  · rename_i r
    simp only [Option.not_isSome_iff_eq_none] at r
    exact Turned.acts (.chan (by simp [standing, Channel.driving, e]) (by simp) (by
      simp +contextual [Channel.right, Channel.driving, e, r])) .reportFree

/-- A report evaluates the inhibit condition afresh (R21). -/
theorem reportInhibit_turned (s : State) (o : Output) :
    Turned o (s.inhibitCondition o = true) s (s.reportInhibit o) := by
  unfold State.reportInhibit
  split
  · rename_i c; simpa [c] using inhibitOn_turned s o
  · rename_i c
    simp only [Bool.not_eq_true] at c
    split
    · rename_i e; simpa [c] using inhibitOff_turned e
    · rename_i e
      exact ⟨.refl, fun h => ⟨h, by simp [c, e], id, fun _ _ => .refl _⟩⟩

end turned

/-! ## The reports of one change -/

/-- Reports to some channels: those are INHIBITED exactly where their condition holds, the others are steady. -/
structure Reported (os : List Output) (s t : State) : Prop extends Calm (fun _ => False) s t where
  drive : SetsRight s → SetsRight t ∧ (∀ o, (s.chan o).right → (t.chan o).right) ∧
    (∀ o ∈ os, (t.chan o).state = .inhibited ↔ s.inhibitCondition o = true) ∧
    ∀ o, o ∉ os → Steady (s.chan o) (t.chan o)

theorem reports_reported (os : List Output) (s : State) : Reported os s (os.foldl State.reportInhibit s) := by
  induction os generalizing s with
  | nil => exact ⟨.refl, fun h => ⟨h, fun _ => id, by simp, fun _ _ => .refl _⟩⟩
  | cons o os ih =>
    have first := reportInhibit_turned s o
    have rest := ih (s.reportInhibit o)
    refine ⟨first.toCalm.trans rest.toCalm, fun h => ?_⟩
    obtain ⟨sets, turned, right, others⟩ := first.drive h
    obtain ⟨setsAfter, rights, reached, steady⟩ := rest.drive sets
    have condition := outside_inhibitCondition first.outside
    refine ⟨setsAfter, fun p r => rights p ?_, fun p m => ?_, fun p m => ?_⟩
    · by_cases e : p = o
      · subst e; exact right r
      · exact (others p e).2 r
    · by_cases later : p ∈ os
      · rw [← condition p]; exact reached p later
      · have e : p = o := (List.mem_cons.mp m).resolve_right later
        subst e
        exact (steady p later).1.trans turned
    · simp only [List.mem_cons, not_or] at m
      exact (others p m.1).trans (steady p m.2)

/-- Every channel of the list takes its report, in an order of the world. -/
theorem reportAll_reported (s : State) (os : List Output) : Reported os s (s.reportAll os) := by
  have arranged : Acts (fun _ => False) s (arrange (os.filter s.reportReaches) s).2 := .arrange _
  have order := arrange_perm (os.filter s.reportReaches) s
  have reports := reports_reported
    ((os.filter fun o => !s.reportReaches o) ++ (arrange (os.filter s.reportReaches) s).1)
    (arrange (os.filter s.reportReaches) s).2
  have mem : ∀ o, o ∈ (os.filter fun o => !s.reportReaches o) ++ (arrange (os.filter s.reportReaches) s).1 ↔
      o ∈ os := fun o => by
    rw [List.mem_append, order.mem_iff, List.mem_filter, List.mem_filter]
    cases s.reportReaches o <;> simp
  refine ⟨arranged.toCalm.trans reports.toCalm, fun h => ?_⟩
  obtain ⟨sets, before⟩ := arranged.drive h
  obtain ⟨setsAfter, rights, reached, steady⟩ := reports.drive sets
  refine ⟨setsAfter, fun o r => rights o ((before o).2 r), fun o m => ?_, fun o m => ?_⟩
  · rw [← outside_inhibitCondition arranged.outside o]
    exact reached o ((mem o).mpr m)
  · exact (before o).trans (steady o fun n => m ((mem o).mp n))

/-! ## What the trip groups' moves uphold -/

/-- The fields that a trip group's move leaves alone: the clock, the mode, the tracker, the profiles and the cam tables. -/
def settled (s : State) :=
  (s.now, s.mode, s.tracker, s.profiles, s.cam.active, s.cam.shadow, s.cam.commitPending)

/-- The settled fields stay, passes are at most ended, and the sets, the inhibits and the channels stay right. -/
structure Upholds (s t : State) : Prop where
  settled : settled t = settled s
  passes : ∀ o, t.pass o = s.pass o ∨ t.pass o = none
  drive : DriveRight s → DriveRight t ∧ ∀ o, (s.chan o).right → (t.chan o).right

section upholds

variable {s t u : State}

theorem Upholds.refl : Upholds s s := ⟨rfl, fun _ => .inl rfl, fun h => ⟨h, fun _ => id⟩⟩

theorem Upholds.trans (a : Upholds s t) (b : Upholds t u) : Upholds s u :=
  ⟨b.settled.trans a.settled, fun o => (b.passes o).elim (fun e => e ▸ a.passes o) .inr, fun h =>
    have ⟨ht, rt⟩ := a.drive h
    have ⟨hu, ru⟩ := b.drive ht
    ⟨hu, fun o => ru o ∘ rt o⟩⟩

theorem Upholds.foldl {α : Type} {f : State → α → State} (h : ∀ s a, Upholds s (f s a)) (l : List α) (s : State) :
    Upholds s (l.foldl f s) := by
  induction l generalizing s with
  | nil => exact .refl
  | cons a l ih => exact (h s a).trans (ih _)

theorem settled_of_outside (h : outside t = outside s) : Drive.settled t = Drive.settled s := by
  unfold Drive.settled
  rw [outside_mode h, outside_tracker h, outside_profiles h, outside_active h, outside_shadow h, outside_commit h,
    show t.now = s.now from congrArg (·.1) h]

theorem Calm.pass_ended (c : Calm (fun _ => False) s t) (o : Output) : t.pass o = s.pass o ∨ t.pass o = none :=
  (c.passes o).imp id (·.resolve_right id)

/-- The fields that the sets, the inhibits and the channels speak of stay. -/
theorem drive_congr (mode : t.mode = s.mode) (profiles : t.profiles = s.profiles) (groups : t.groups = s.groups)
    (channels : t.channels = s.channels) (isets : t.isets = s.isets) :
    DriveRight s → DriveRight t ∧ ∀ o, (s.chan o).right → (t.chan o).right := by
  rw [driveRight_iff, driveRight_iff]
  have condition : ∀ o, t.inhibitCondition o = s.inhibitCondition o := fun o => by
    unfold State.inhibitCondition State.heldByGroup State.profile State.group
    rw [mode, profiles, groups]
  rintro ⟨sets, inhibits⟩
  refine ⟨⟨sets.congr profiles isets fun o => by rw [chan_of_channels channels], fun o => ?_⟩, fun o r => ?_⟩
  · rw [chan_of_channels channels, condition]; exact inhibits o
  · rw [chan_of_channels channels]; exact r

/-- Only fields outside the Drive Channels, the Interlock Unit, the trip groups' states and the Cam Unit are written. -/
theorem Upholds.of_eq (settled : Drive.settled t = Drive.settled s) (passes : t.cam.passes = s.cam.passes)
    (groups : t.groups = s.groups) (channels : t.channels = s.channels) (isets : t.isets = s.isets) : Upholds s t :=
  ⟨settled, fun o => .inl (by simp only [State.pass, passes]),
    drive_congr (congrArg (·.2.1) settled) (congrArg (·.2.2.2.1) settled) groups channels isets⟩

theorem acts_drive {W : Output → Prop} (a : Acts W s t) :
    DriveRight s → DriveRight t ∧ ∀ o, (s.chan o).right → (t.chan o).right := by
  rw [driveRight_iff, driveRight_iff]
  rintro ⟨sets, inhibits⟩
  obtain ⟨setsAfter, steady⟩ := a.drive sets
  refine ⟨⟨setsAfter, fun o => ?_⟩, fun o => (steady o).2⟩
  rw [outside_inhibitCondition a.outside]
  exact (steady o).1.trans (inhibits o)

theorem Acts.upholds (a : Acts (fun _ => False) s t) : Upholds s t :=
  ⟨settled_of_outside a.outside, a.toCalm.pass_ended, acts_drive a⟩

/-- A change of inhibit conditions followed by the report of all whose condition changed. -/
theorem reported_drive {os : List Output} {v : State} (r : Reported os v t) (channels : v.channels = s.channels)
    (isets : v.isets = s.isets) (profiles : v.profiles = s.profiles)
    (others : ∀ o, o ∉ os → v.inhibitCondition o = s.inhibitCondition o) :
    DriveRight s → DriveRight t ∧ ∀ o, (s.chan o).right → (t.chan o).right := by
  rw [driveRight_iff, driveRight_iff]
  rintro ⟨sets, inhibits⟩
  have same : ∀ o, v.chan o = s.chan o := chan_of_channels channels
  obtain ⟨setsAfter, rights, reached, steady⟩ :=
    r.drive (sets.congr profiles isets fun o => by rw [same])
  refine ⟨⟨setsAfter, fun o => ?_⟩, fun o right => rights o (by rw [same]; exact right)⟩
  rw [outside_inhibitCondition r.outside]
  by_cases m : o ∈ os
  · exact reached o m
  · rw [others o m]
    exact (steady o m).1.trans (by rw [same]; exact inhibits o)

/-! ## Trip groups -/

theorem heldByGroup_iff (s : State) (o : Output) :
    s.heldByGroup o = true ↔ ∃ g, profileNames (s.profile o) g = true ∧ (s.group g).state ≠ .normal := by
  have all : ∀ g : GroupId, g ∈ allGroups := by decide
  simp only [State.heldByGroup, List.any_eq_true, Bool.and_eq_true, decide_eq_true_eq]
  exact ⟨fun ⟨g, _, h⟩ => ⟨g, h⟩, fun ⟨g, h⟩ => ⟨g, all g, h⟩⟩

/-- Inhibit conditions see of the groups whether they are NORMAL, and of those only the ones a profile names. -/
theorem inhibitCondition_setGroup {g : GroupId} {x : TripGroup} {o : Output}
    (h : profileNames (s.profile o) g = false ∨ (x.state ≠ .normal ↔ (s.group g).state ≠ .normal)) :
    (s.setGroup g x).inhibitCondition o = s.inhibitCondition o := by
  have held : (s.setGroup g x).heldByGroup o = s.heldByGroup o := by
    rw [Bool.eq_iff_iff, heldByGroup_iff, heldByGroup_iff]
    refine exists_congr fun j => ?_
    simp only [State.setGroup_profile, State.setGroup_group]
    split
    · rename_i e; subst e
      rcases h with h | h
      · simp [h]
      · rw [h]
    · rfl
  unfold State.inhibitCondition
  rw [held, State.setGroup_mode]

theorem mem_groupMembers (s : State) (g : GroupId) (o : Output) :
    o ∈ s.groupMembers g ↔ profileNames (s.profile o) g = true := by
  have all : ∀ o : Output, o ∈ allOutputs := by decide
  simp [State.groupMembers, all]

/-- A group's record changes, and its members take the report. -/
theorem Upholds.group_reported (g : GroupId) (x : TripGroup) (b : Option NoticeBody) :
    Upholds s ((b.elim (s.setGroup g x) (s.setGroup g x).post).reportAll (s.groupMembers g)) := by
  have posted : Acts (fun _ => False) (s.setGroup g x) (b.elim (s.setGroup g x) (s.setGroup g x).post) := by
    cases b with
    | none => exact .refl
    | some b => exact .post b
  have cs : (b.elim (s.setGroup g x) (s.setGroup g x).post).channels = s.channels ∧
      (b.elim (s.setGroup g x) (s.setGroup g x).post).isets = s.isets := by
    cases b with
    | none => exact ⟨rfl, rfl⟩
    | some b => simp only [Option.elim]; rw [post_frame]; exact ⟨rfl, rfl⟩
  have r := reportAll_reported (b.elim (s.setGroup g x) (s.setGroup g x).post) (s.groupMembers g)
  have c := posted.toCalm.trans r.toCalm
  refine ⟨(settled_of_outside c.outside : _ = Drive.settled (s.setGroup g x)), c.pass_ended,
    reported_drive r cs.1 cs.2 (outside_profiles posted.outside : _ = (s.setGroup g x).profiles) fun o m => ?_⟩
  rw [outside_inhibitCondition posted.outside]
  refine inhibitCondition_setGroup (.inl ?_)
  simpa [mem_groupMembers] using m

/-- A group's record changes, and it is NORMAL as before or not NORMAL as before. -/
theorem Upholds.group {g : GroupId} {x : TripGroup} (h : x.state ≠ .normal ↔ (s.group g).state ≠ .normal) :
    Upholds s (s.setGroup g x) := by
  refine ⟨rfl, fun _ => .inl rfl, ?_⟩
  rw [driveRight_iff, driveRight_iff]
  rintro ⟨sets, inhibits⟩
  refine ⟨⟨sets.congr rfl rfl fun _ => rfl, fun o => ?_⟩, fun _ => id⟩
  rw [inhibitCondition_setGroup (.inr h)]
  exact inhibits o

theorem Upholds.tripStart (g : GroupId) : Upholds s (s.tripStart g) := by
  have start : Upholds s ((s.setGroup g { s.group g with state := .tripped, restoreTimer := none }).reportAll
      (s.groupMembers g)) := Upholds.group_reported g _ none
  unfold State.tripStart
  dsimp only
  refine Upholds.trans ?_ (Acts.post _).upholds
  split
  · exact start.trans (Acts.purgeQueues _).upholds
  · exact start

theorem Upholds.releaseGroup (g : GroupId) (how : ReleaseHow) : Upholds s (s.releaseGroup g how) :=
  Upholds.group_reported g _ (some (.groupReleased g how s.now))

theorem Upholds.startRestore {g : GroupId} (h : (s.group g).state ≠ .normal) : Upholds s (s.startRestore g) := by
  unfold State.startRestore
  dsimp only
  split
  · exact .releaseGroup ..
  · exact .group (by simp [h])

theorem Upholds.backToTripped {g : GroupId} (h : (s.group g).state ≠ .normal) : Upholds s (s.backToTripped g) :=
  .group (by simp [h])

theorem Upholds.evalGroup (g : GroupId) : Upholds s (s.evalGroup g) := by
  unfold State.evalGroup
  dsimp only
  split
  · split
    · exact .refl
    · exact .tripStart g
  · rename_i e
    split
    · exact .startRestore (by simp [e])
    · exact .refl
  · rename_i e
    split
    · exact .refl
    · exact .backToTripped (by simp [e])

theorem Upholds.reviewGroup (g : GroupId) : Upholds s (s.reviewGroup g) := by
  unfold State.reviewGroup
  split
  · exact .refl
  · exact .tripStart g
  · rename_i e _ _; exact .startRestore (by simp [e])
  · exact .refl
  · rename_i e _ _; exact .startRestore (by simp [e])
  · rename_i e _; exact .backToTripped (by simp [e])

theorem Upholds.sourceChange (mask : Byte) : Upholds s (s.sourceChange mask) := by
  refine .foldl (fun s g => ?_) _ _
  split
  · exact .refl
  · exact .evalGroup g

theorem Upholds.setRailMonitor (m : RailMonitor) : Upholds s (s.setRailMonitor m) := by
  have rail : Upholds s { s with rail := m } := .of_eq rfl rfl rfl rfl rfl
  unfold State.setRailMonitor
  dsimp only
  split
  · exact rail
  · exact rail.trans (.sourceChange _)

theorem Upholds.faultIn (i : InputId) (f : FaultIn) : Upholds s (s.setFaultIn i f) := .of_eq rfl rfl rfl rfl rfl

theorem Upholds.faultSample (i : InputId) (l : Level) : Upholds s (s.faultSample i l) := by
  have pin : Upholds s { s with pins := { s.pins with faults := wr s.pins.faults i l } } := .of_eq rfl rfl rfl rfl rfl
  unfold State.faultSample
  dsimp only
  split
  · split
    · exact pin.trans (.faultIn ..)
    · exact (pin.trans (.faultIn ..)).trans (.sourceChange _)
  · exact pin

theorem Upholds.railSample (v : Int) : Upholds s (s.railSample v) := by
  have pin : Upholds s { s with pins := { s.pins with rail := v } } := .of_eq rfl rfl rfl rfl rfl
  unfold State.railSample
  dsimp only
  split
  · exact pin.trans (.setRailMonitor _)
  · exact pin

/-- Only the link, the notices, the pins, the policy and the model's own fields are written. -/
theorem Upholds.link (l : Link) : Upholds s { s with link := l } := .of_eq rfl rfl rfl rfl rfl

theorem Upholds.setLinkActive (a : Bool) : Upholds s (s.setLinkActive a) := by
  unfold State.setLinkActive
  split
  · exact .refl
  · exact (Upholds.link _).trans (.sourceChange _)

theorem Upholds.touchLink : Upholds s s.touchLink := by
  unfold State.touchLink
  split
  · exact .refl
  · exact (Upholds.link _).trans (.setLinkActive _)

theorem Upholds.linkExpiry : Upholds s s.linkExpiry := by
  unfold State.linkExpiry
  split
  · exact (Upholds.link _).trans (.setLinkActive _)
  · exact .refl

theorem Upholds.restoreExpiry (g : GroupId) : Upholds s (s.restoreExpiry g) := by
  unfold State.restoreExpiry
  dsimp only
  split
  · exact .releaseGroup ..
  · exact .refl

theorem Upholds.ownSetLink (f : Baud × Nat) : Upholds s (ownSetLink f s).state := by
  unfold Machine.ownSetLink
  dsimp only
  split
  · exact (Upholds.link _).trans (.setLinkActive _)
  · exact .link _

theorem Upholds.ownSetFaultin (f : FaultinFields) : Upholds s (ownSetFaultin f s).state := by
  unfold Machine.ownSetFaultin
  dsimp only
  split
  · exact .refl
  · dsimp only
    split
    · exact (Upholds.faultIn ..).trans (.sourceChange _)
    · exact .faultIn ..

theorem Upholds.ownSetRail (f : RailFields) : Upholds s (ownSetRail f s).state := by
  unfold Machine.ownSetRail
  split
  · exact .refl
  · split
    · exact .refl
    · exact .setRailMonitor _

theorem Upholds.ownSetTgroup (f : TgroupFields) : Upholds s (ownSetTgroup f s).state := by
  unfold Machine.ownSetTgroup
  split
  · exact .refl
  · exact (Upholds.group (by simp)).trans (.reviewGroup _)

theorem Upholds.hostTrip (g : GroupId) : Upholds s (s.hostTrip g) := by
  unfold State.hostTrip
  split
  · exact .refl
  · exact (Upholds.group (by simp)).trans (.evalGroup _)

theorem Upholds.ownTrip (m : BitVec 4) : Upholds s (ownTrip m s).state := by
  refine .foldl (fun s g => ?_) _ _
  split
  · exact .hostTrip g
  · exact .refl

theorem Upholds.releaseOrder (g : GroupId) : Upholds s (s.releaseOrder g) := by
  have cleared : Upholds s (s.setGroup g { s.group g with hostTrip := false }) := .group (by simp)
  unfold State.releaseOrder
  dsimp only
  split
  · exact cleared.trans (.releaseGroup ..)
  · split
    · exact cleared.trans (.evalGroup _)
    · exact cleared

theorem Upholds.ownRelease (g : GroupId) : Upholds s (ownRelease g s).state := by
  unfold Machine.ownRelease
  split
  · exact .refl
  · split
    · exact .refl
    · exact .releaseOrder g

end upholds

end Sys2Proof.Laws.Drive
end

section
/-! SUPPORT. An invariant from its owners: what every owner of an order or an event keeps, and a reset establishes, every
step keeps (`Kept.step`). -/

namespace Sys2Proof.Laws.Invariants

open Sys2Proof Sys2Proof.Machine Sys2Proof.Laws.Drive

/-- Only the link beside the link timer, the notices, the pins and the model's own fields are written. -/
structure Plumbed (s t : State) : Prop where
  rest : t = { s with
    pending := t.pending, link := t.link, notices := t.notices, pins := t.pins, choices := t.choices, picks := t.picks }
  timing : timing t.link = timing s.link

section plumbed

variable {s t u : State}

theorem Plumbed.refl : Plumbed s s := ⟨rfl, rfl⟩

theorem Plumbed.trans (a : Plumbed s t) (b : Plumbed t u) : Plumbed s u := by
  refine ⟨?_, b.timing.trans a.timing⟩
  rw [b.rest, a.rest]

/-- The link is written beside the link timer. -/
theorem Plumbed.link {l : Link} (h : Drive.timing l = Drive.timing s.link) : Plumbed s { s with link := l } := ⟨rfl, h⟩

theorem Plumbed.pump : Plumbed s s.pump := ⟨by rw [pump_frame], pump_timing s⟩

theorem Plumbed.placeReply (r : Reply) : Plumbed s (s.placeReply r) := by
  unfold State.placeReply
  split
  · exact (Plumbed.link (l := { s.link with replies := s.link.replies ++ [r] }) rfl).trans .pump
  · exact .refl

theorem Plumbed.answer (f : OrderFrame) (b : ReplyBody) (d : Bound) : Plumbed s (s.answer f b d) := by
  have cached : ∀ u : State, Plumbed u (u.cacheOrder f b) := fun u => by
    unfold State.cacheOrder
    split
    · exact .refl
    · exact .link rfl
  have left : ∀ u : State, Plumbed u (u.leaveInbox f) := fun u => by
    unfold State.leaveInbox
    split
    · exact .link rfl
    · exact .refl
  exact ((Plumbed.placeReply _).trans (cached _)).trans (left _)

theorem Plumbed.admission (f : OrderFrame) : Plumbed s (s.admission f) := by
  unfold State.admission
  split
  · exact .placeReply _
  · split
    · exact .refl
    · split
      · exact .placeReply _
      · exact ⟨rfl, rfl⟩

end plumbed

/-- What is to be shown of a predicate for every step to keep it: by owner of an order or an event. -/
structure Kept (P : State → Prop) : Prop where
  plumbed : ∀ s t, Plumbed s t → P s → P t
  reset : ∀ (s : State) cause baud, P (s.afterReset cause baud)
  advance : ∀ s : State, P s → P s.advance
  /-- The reading orders, the orders and events of the channels and of the Shot Scheduler. -/
  acts : ∀ s t, Inners s t → Acts (fun _ => False) s t → P s → P t
  policy : ∀ s p, P s → P { s with conflictPolicy := p }
  setIset : ∀ f s, P s → P (ownSetIset f s).state
  setProfile : ∀ f s, P s → P (ownSetProfile f s).state
  start : ∀ s, P s → P (ownStart () s).state
  stop : ∀ s, P s → P (ownStop () s).state
  pause : ∀ s, P s → P (ownPause () s).state
  resume : ∀ s, P s → P (ownResume () s).state
  setAngle : ∀ f s, P s → P (ownSetAngle f s).state
  setCycle : ∀ c s, P s → P (ownSetCycle c s).state
  pulse : ∀ s : State, P s → P s.pulse
  index : ∀ s : State, P s → P s.index
  stall : ∀ s : State, P s → P s.stallExpiry
  camPut : ∀ body w s, decodeCamPut body = .ok w → P s → P (ownCamPut w s).state
  camDrop : ∀ b s, P s → P (ownCamDrop b s).state
  camClear : ∀ s, P s → P (ownCamClear () s).state
  camCopy : ∀ s, P s → P (ownCamCopy () s).state
  camCommit : ∀ s, P s → P (ownCamCommit () s).state
  camAbort : ∀ s, P s → P (ownCamAbort () s).state
  setLink : ∀ f s, P s → P (ownSetLink f s).state
  touchLink : ∀ s : State, P s → P s.touchLink
  linkExpiry : ∀ s : State, P s → P s.linkExpiry
  setFaultin : ∀ body f s, decodeSetFaultin body = .ok f → P s → P (ownSetFaultin f s).state
  setRail : ∀ body f s, decodeSetRail body = .ok f → P s → P (ownSetRail f s).state
  setTgroup : ∀ f s, P s → P (ownSetTgroup f s).state
  trip : ∀ m s, P s → P (ownTrip m s).state
  release : ∀ g s, P s → P (ownRelease g s).state
  faultSample : ∀ i l (s : State), P s → P (s.faultSample i l)
  railSample : ∀ v (s : State), P s → P (s.railSample v)
  restoreExpiry : ∀ g (s : State), P s → P (s.restoreExpiry g)

section kept

variable {P : State → Prop} {s t : State}

theorem order_kept {α : Type} {kind : Byte} {decode : List Byte → Except Result α} {owner : α → State → Answer}
    {seq : Byte} {body : List Byte} (plumbed : ∀ s t, Plumbed s t → P s → P t)
    (own : ∀ a, decode body = .ok a → P s → P (owner a s).state)
    (h : order kind decode owner seq body s = .next t) (p : P s) : P t := by
  simp only [order, Host.Outcome.next.injEq] at h
  subst h
  unfold takeOrder
  split
  · dsimp only
    split
    · exact plumbed _ _ (.answer ..) p
    · rename_i d; exact plumbed _ _ (.answer ..) (own _ d p)
  · exact p

theorem event_kept {f : State → State} (own : P s → P (f s)) (h : event f s = .next t) (p : P s) : P t := by
  simp only [event, Host.Outcome.next.injEq] at h
  subst h
  split
  · exact p
  · exact own p

/-- The owner of a reading order, and one that halts the decoder or clears the conflict record. -/
theorem Kept.still (_k : Kept P) {u : State} (e : u = s) (p : P s) : P u := e ▸ p

/-- Every order keeps it. -/
theorem Kept.order (k : Kept P) {i : Instr} {f : OrderFrame} (c : commandFrame i = some f) (h : exec i s = .next t)
    (p : P s) : P t := by
  have one : ∀ {α : Type} {kind : Byte} {decode : List Byte → Except Result α} {owner : α → State → Answer}
      {seq : Byte} {body : List Byte}, (∀ a, decode body = .ok a → P s → P (owner a s).state) →
      Machine.order kind decode owner seq body s = .next t → P t := fun own h => order_kept k.plumbed own h p
  cases i with
  | ident | status | time | channel | queueRead | isetRead | tripRead => exact one (fun _ _ => id) h
  | camRead _ _ =>
    refine one (fun a _ => k.still (?_ : (ownCamRead a s).state = s)) h
    unfold ownCamRead
    split
    · rfl
    · split <;> rfl
  | setLink => exact one (fun a _ => k.setLink a s) h
  | reset => exact one (fun _ _ => k.plumbed s _ ⟨rfl, rfl⟩) h
  | start => exact one (fun _ _ => k.start s) h
  | stop => exact one (fun _ _ => k.stop s) h
  | pause => exact one (fun _ _ => k.pause s) h
  | resume => exact one (fun _ _ => k.resume s) h
  | setProfile => exact one (fun a _ => k.setProfile a s) h
  | manual => exact one (fun a _ => k.acts s _ (ownManual_inners a s) (.ownManual a)) h
  | shot => exact one (fun a _ => k.acts s _ (ownShot_inners a s) (.ownShot a)) h
  | shots => exact one (fun a _ => k.acts s _ (ownShots_inners a s) (.ownShots a)) h
  | cancel => exact one (fun a _ => k.acts s _ (ownCancel_inners a s) (.ownCancel a)) h
  | setAngle => exact one (fun a _ => k.setAngle a s) h
  | setCycle => exact one (fun a _ => k.setCycle a s) h
  | camPut => exact one (fun a d => k.camPut _ a s d) h
  | camDrop => exact one (fun a _ => k.camDrop a s) h
  | camClear => exact one (fun _ _ => k.camClear s) h
  | camCopy => exact one (fun _ _ => k.camCopy s) h
  | camCommit => exact one (fun _ _ => k.camCommit s) h
  | camAbort => exact one (fun _ _ => k.camAbort s) h
  | setIset => exact one (fun a _ => k.setIset a s) h
  | setConflict => exact one (fun a _ => k.policy s a) h
  | conflictRead =>
    exact one (fun _ _ => k.acts s _ (.one (.conflict _)) (.of_calm (.of_cam rfl rfl) rfl rfl)) h
  | setFaultin => exact one (fun a d => k.setFaultin _ a s d) h
  | setRail => exact one (fun a d => k.setRail _ a s d) h
  | setTgroup => exact one (fun a _ => k.setTgroup a s) h
  | trip => exact one (fun a _ => k.trip a s) h
  | release => exact one (fun a _ => k.release a s) h
  | unknownOrder seq kind body =>
    simp only [exec, execUnknownOrder] at h
    split at h
    · cases h; exact p
    · exact one (fun _ _ => id) h
  | _ => cases c

theorem Kept.takeFrames (k : Kept P) (n : Nat) (p : P s) : P (s.takeFrames n) := by
  induction n generalizing s with
  | zero => exact p
  | succ n ih =>
    unfold State.takeFrames
    split
    · exact p
    · rename_i f _ _
      split
      · exact ih (k.order (commandFrame_orderCommand f) (afterTaking_exec s f) p)
      · exact p

theorem Kept.settle (k : Kept P) (p : P s) : P s.settle := k.takeFrames _ p

theorem Kept.frameArrivals (k : Kept P) (fs : List OrderFrame) (p : P s) : P (fs.foldl State.frameArrival s) := by
  induction fs generalizing s with
  | nil => exact p
  | cons f fs ih => exact ih (k.plumbed _ _ (.admission f) (k.touchLink s p))

theorem Kept.takeScan (k : Kept P) (found : List OrderFrame × List Byte) (p : P s) : P (s.takeScan found) := by
  have framed := k.plumbed s _ (⟨rfl, rfl⟩ : Plumbed s { s with link := { s.link with
    candidate := found.2, gapTimer := if found.2.isEmpty then none else some (after s.now Config.gapLimit) } }) p
  unfold State.takeScan State.arrive
  split
  · exact framed
  · exact k.settle (k.frameArrivals _ framed)

theorem Kept.endReset (k : Kept P) (cause : ResetCause) (baud : Baud) : P (s.endReset cause baud) :=
  k.plumbed _ _ .pump (k.reset s cause baud)

theorem Kept.holdReset (k : Kept P) : P s.holdReset :=
  k.plumbed _ _ ⟨rfl, rfl⟩ (k.reset s s.resetCause .b115200)

theorem Kept.frameSent (k : Kept P) (p : P s) : P s.frameSent := by
  have freed : ∀ l : Link, timing l = timing s.link → P (State.pump { s with link := l }) := fun l e =>
    k.plumbed s _ ((Plumbed.link e).trans .pump) p
  unfold State.frameSent
  split
  · exact p
  · dsimp only
    split
    · exact k.settle (freed _ rfl)
    · unfold State.changeBaud
      split
      · exact k.settle (freed _ rfl)
      · exact k.settle (freed _ rfl)
    · exact k.endReset ..

/-- Every command keeps it. -/
theorem Kept.exec (k : Kept P) {i : Instr} (h : exec i s = .next t) (p : P s) : P t := by
  have event (f : State → State) (own : P s → P (f s)) (h : event f s = .next t) : P t := event_kept own h p
  cases c : commandFrame i with
  | some f => exact k.order c h p
  | none =>
    cases i with
    | byteArrival rx => exact event (·.byteArrival rx) (fun p => by cases rx <;> exact k.takeScan _ p) h
    | gapTimerExpiry =>
      refine event State.gapExpiry (fun p => ?_) h
      unfold State.gapExpiry
      split
      · exact k.takeScan _ p
      · exact p
    | linkTimerExpiry => exact event State.linkExpiry (k.linkExpiry s) h
    | frameSent => exact event State.frameSent k.frameSent h
    | supplyFail => cases h; exact k.holdReset
    | supplySettled =>
      cases h
      unfold State.supplySettled
      split
      · exact p
      · split
        · exact k.plumbed s _ ⟨rfl, rfl⟩ p
        · exact k.endReset ..
    | nrstLow =>
      cases h
      unfold State.nrstLow
      split
      · exact p
      · exact k.holdReset
    | nrstHigh =>
      cases h
      unfold State.nrstHigh
      split
      · exact p
      · split
        · exact k.endReset ..
        · exact k.plumbed s _ ⟨rfl, rfl⟩ p
    | encPulse => exact event State.pulse (k.pulse s) h
    | idxIndex => exact event State.index (k.index s) h
    | stallTimerExpiry => exact event State.stallExpiry (k.stall s) h
    | boostTimerExpiry o => exact event (·.boostExpiry o) (k.acts s _ (boostExpiry_inners s o) .boostExpiry) h
    | maxOnTimerExpiry o => exact event (·.maxOnExpiry o) (k.acts s _ (maxOnExpiry_inners s o) .maxOnExpiry) h
    | recoverTimerExpiry o => exact event (·.recoverExpiry o) (k.acts s _ (recoverExpiry_inners s o) .recoverExpiry) h
    | deferTimerExpiry o => exact event (·.deferExpiry o) (k.acts s _ (deferExpiry_inners s o) .deferExpiry) h
    | shotStartDue o start => exact event (·.startDue o start) (k.acts s _ (startDue_inners s o start) (.startDue start)) h
    | shotDropDue o start => exact event (·.dropDue o start) (k.acts s _ (dropDue_inners s o start) (.dropDue start)) h
    | shotEndDue o => exact event (·.endDue o) (k.acts s _ (endDue_inners s o) .endDue) h
    | faultSample i l => exact event (·.faultSample i l) (k.faultSample i l s) h
    | railSample v => exact event (·.railSample v) (k.railSample v s) h
    | restoreTimerExpiry g => exact event (·.restoreExpiry g) (k.restoreExpiry g s) h
    | _ => cases c

/-- What the passing of a microsecond and the world's order leave. -/
theorem tick_plumbed (s : State) : Plumbed s.advance s.tick := by
  unfold State.tick
  dsimp only
  rw [arrange_frame]
  exact ⟨rfl, rfl⟩

/-- Every step keeps it. -/
theorem Kept.step (k : Kept P) (h : step s = .next t) (p : P s) : P t := by
  unfold Machine.step at h
  split at h
  · exact k.exec h (k.plumbed s _ ⟨rfl, rfl⟩ p)
  · cases h
    have ticked : P s.tick := k.plumbed _ _ (tick_plumbed s) (k.advance s p)
    unfold State.idle
    split
    · exact p
    · split
      · split
        · exact k.plumbed s _ ⟨rfl, rfl⟩ p
        · exact ticked
      · exact ticked

end kept

/-- For a predicate that the trip groups' moves, and all that does no more, keep: the owners that are left. -/
structure KeptBeside (P : State → Prop) : Prop where
  upholds : ∀ s t, Upholds s t → P s → P t
  reset : ∀ (s : State) cause baud, P (s.afterReset cause baud)
  advance : ∀ s : State, P s → P s.advance
  setIset : ∀ f s, P s → P (ownSetIset f s).state
  setProfile : ∀ f s, P s → P (ownSetProfile f s).state
  start : ∀ s, P s → P (ownStart () s).state
  stop : ∀ s, P s → P (ownStop () s).state
  pause : ∀ s, P s → P (ownPause () s).state
  resume : ∀ s, P s → P (ownResume () s).state
  setAngle : ∀ f s, P s → P (ownSetAngle f s).state
  setCycle : ∀ c s, P s → P (ownSetCycle c s).state
  pulse : ∀ s : State, P s → P s.pulse
  index : ∀ s : State, P s → P s.index
  stall : ∀ s : State, P s → P s.stallExpiry
  camPut : ∀ body w s, decodeCamPut body = .ok w → P s → P (ownCamPut w s).state
  camDrop : ∀ b s, P s → P (ownCamDrop b s).state
  camClear : ∀ s, P s → P (ownCamClear () s).state
  camCopy : ∀ s, P s → P (ownCamCopy () s).state
  camCommit : ∀ s, P s → P (ownCamCommit () s).state
  camAbort : ∀ s, P s → P (ownCamAbort () s).state

theorem Plumbed.upholds {s t : State} (h : Plumbed s t) : Upholds s t := by
  refine .of_eq ?_ ?_ ?_ ?_ ?_ <;> rw [h.rest] <;> rfl

theorem KeptBeside.kept {P : State → Prop} (k : KeptBeside P) : Kept P where
  plumbed s t h := k.upholds s t h.upholds
  reset := k.reset
  advance := k.advance
  acts s t _ h := k.upholds s t h.upholds
  policy s _ := k.upholds s _ (.of_eq rfl rfl rfl rfl rfl)
  setIset := k.setIset
  setProfile := k.setProfile
  start := k.start
  stop := k.stop
  pause := k.pause
  resume := k.resume
  setAngle := k.setAngle
  setCycle := k.setCycle
  pulse := k.pulse
  index := k.index
  stall := k.stall
  camPut := k.camPut
  camDrop := k.camDrop
  camClear := k.camClear
  camCopy := k.camCopy
  camCommit := k.camCommit
  camAbort := k.camAbort
  setLink f s := k.upholds s _ (.ownSetLink f)
  touchLink s := k.upholds s _ .touchLink
  linkExpiry s := k.upholds s _ .linkExpiry
  setFaultin _ f s _ := k.upholds s _ (.ownSetFaultin f)
  setRail _ f s _ := k.upholds s _ (.ownSetRail f)
  setTgroup f s := k.upholds s _ (.ownSetTgroup f)
  trip m s := k.upholds s _ (.ownTrip m)
  release g s := k.upholds s _ (.ownRelease g)
  faultSample i l s := k.upholds s _ (.faultSample i l)
  railSample v s := k.upholds s _ (.railSample v)
  restoreExpiry g s := k.upholds s _ (.restoreExpiry g)

end Sys2Proof.Laws.Invariants
end

section
/-! SUPPORT. The tracker's events for an invariant that does not speak of the tracker's state, and the invariants of the
interlock sets, the inhibits and the channels. -/

namespace Sys2Proof.Laws.Invariants

open Sys2Proof Sys2Proof.Machine Sys2Proof.Laws.Drive

/-! ## The tracker's events -/

/-- A predicate that no change of the tracker under its cycle length, no operation of the channels and no commit
breaks. -/
structure KeptByTurns (P : State → Prop) : Prop where
  tracker : ∀ s t, t.cycleLength = s.tracker.cycleLength → P s → P (s.setTracker t)
  acts : ∀ W s t, Inners s t → Acts W s t → P s → P t
  commit : ∀ s c, P s → P (s.takeCommit c)

section turns

variable {P : State → Prop} {s : State}

theorem KeptByTurns.takePending (k : KeptByTurns P) (c : CommitCause) (p : P s) : P (s.takePending c) := by
  unfold State.takePending
  split
  · exact k.commit s c p
  · exact p

theorem KeptByTurns.camStateChange (k : KeptByTurns P) (old new : TrackerState) (p : P s) :
    P (s.camStateChange old new) := by
  have ended : P (if old = .synced ∧ new ≠ .synced then s.endPasses else s) := by
    split
    · exact k.acts (fun _ => False) _ _ (endPasses_inners _) .endPasses p
    · exact p
  unfold State.camStateChange
  dsimp only
  split
  · exact k.takePending _ ended
  · exact ended

/-- A change of tracker state whose new record stands already. -/
theorem KeptByTurns.trackerTo_of (k : KeptByTurns P) {t : Tracker} (cause : TrackerCause) (p : P (s.setTracker t)) :
    P (s.trackerTo t cause) :=
  k.camStateChange _ _ (k.acts (fun _ => False) _ _ (post_inners ..) (.post _) p)

theorem KeptByTurns.trackerTo (k : KeptByTurns P) {t : Tracker} (cause : TrackerCause)
    (e : t.cycleLength = s.tracker.cycleLength) (p : P s) : P (s.trackerTo t cause) :=
  k.trackerTo_of cause (k.tracker s t e p)

theorem KeptByTurns.pulseSynced (k : KeptByTurns P) (p : P s) : P s.pulseSynced := by
  unfold State.pulseSynced State.camPosition
  dsimp only
  split
  · split
    · exact k.tracker _ _ rfl p
    · split
      · exact k.acts _ _ _ (camRounds_inners ..) (.camRounds _) (k.tracker _ _ rfl p)
      · exact k.tracker _ _ rfl p
  · exact k.trackerTo _ rfl p

theorem KeptByTurns.motion (k : KeptByTurns P) (p : P s) : P s.motion := k.trackerTo _ rfl p

theorem KeptByTurns.pulse (k : KeptByTurns P) (p : P s) : P s.pulse := by
  unfold State.pulse
  dsimp only
  split
  · exact p
  · exact p
  · exact k.tracker _ _ rfl p
  · exact k.pulseSynced p
  · exact k.pulseSynced (k.motion p)

theorem KeptByTurns.acceptIndex (k : KeptByTurns P) (p : P s) : P s.acceptIndex := by
  have counted := k.tracker s { s.tracker with cycle := s.tracker.cycle + 1, pulses := 0, position := 0 } rfl p
  unfold State.acceptIndex State.camIndex
  dsimp only
  split
  · split
    · exact k.acts _ _ _ (camRounds_inners ..) (.camRounds _) (k.commit _ _ counted)
    · exact k.acts _ _ _ (camRounds_inners ..) (.camRounds _) counted
  · exact counted

theorem KeptByTurns.index (k : KeptByTurns P) (p : P s) : P s.index := by
  unfold State.index
  dsimp only
  split
  · exact p
  · exact k.trackerTo _ rfl p
  · split
    · exact k.trackerTo _ rfl p
    · exact k.tracker _ _ rfl p
  · split
    · exact k.acceptIndex p
    · exact k.trackerTo _ rfl p
  · split
    · exact k.acceptIndex (k.motion p)
    · exact k.trackerTo _ rfl p

theorem KeptByTurns.stall (k : KeptByTurns P) (p : P s) : P s.stallExpiry := by
  unfold State.stallExpiry
  dsimp only
  split
  · exact k.trackerTo _ rfl p
  · exact p

end turns

/-- What SET_ANGLE leaves: the state as it was, or the tracker configured, with the change of state where there is
one. -/
theorem ownSetAngle_cases (f : AngleFields) (s : State) :
    (ownSetAngle f s).state = s ∨
      (s.mode = .idle ∧ (f.cycleLength ≠ 0 → 4 * f.tolerance < f.cycleLength) ∧
        (f.cycleLength = 0 → s.camOutputs = []) ∧
        (f.cycleLength ≠ 0 → CamTable.reaches s.cam.active f.cycleLength = false ∧
          CamTable.reaches s.cam.shadow f.cycleLength = false)) ∧
      ((ownSetAngle f s).state = s.setTracker (s.tracker.configured f) ∨
        (s.tracker.configured f).state ≠ s.tracker.state ∧
          (ownSetAngle f s).state = s.trackerTo (s.tracker.configured f) .config) := by
  unfold ownSetAngle
  split
  · exact .inl rfl
  · rename_i idle
    split
    · exact .inl rfl
    · rename_i tolerance
      split
      · exact .inl rfl
      · rename_i used
        split
        · exact .inl rfl
        · rename_i reached
          refine .inr ⟨⟨not_not.mp idle, fun h => ?_, fun h => ?_, fun h => ?_⟩, ?_⟩
          · exact not_le.mp fun le => tolerance ⟨h, le⟩
          · exact not_not.mp fun ne => used ⟨h, ne⟩
          · have := fun r => reached ⟨h, r⟩
            simpa [not_or] using this
          · dsimp only
            split
            · exact .inl rfl
            · rename_i ne; exact .inr ⟨ne, rfl⟩

/-! ## The sets, the inhibits and the channels -/

/-- The sets and the inhibits right, and, where it is asked, every channel's record. -/
def DriveKept (R : Prop) (s : State) : Prop := DriveRight s ∧ (R → ∀ o, (s.chan o).right)

section drive

variable {R : Prop} {s t : State}

theorem DriveKept.of (p : DriveKept R s)
    (h : DriveRight s → DriveRight t ∧ ∀ o, (s.chan o).right → (t.chan o).right) : DriveKept R t :=
  have ⟨drive, rights⟩ := h p.1
  ⟨drive, fun r o => rights o (p.2 r o)⟩

/-- The commit writes the Cam Unit alone, and posts. -/
theorem takeCommit_drive (s : State) (c : CommitCause) :
    DriveRight s → DriveRight (s.takeCommit c) ∧ ∀ o, (s.chan o).right → ((s.takeCommit c).chan o).right := by
  unfold State.takeCommit
  refine drive_congr ?_ ?_ ?_ ?_ ?_ <;> rw [post_frame]

theorem driveKept_turns (R : Prop) : KeptByTurns (DriveKept R) where
  tracker _ _ _ p := p.of (drive_congr rfl rfl rfl rfl rfl)
  acts _ _ _ _ a p := p.of (acts_drive a)
  commit s c p := p.of (takeCommit_drive s c)

/-- A change of mode: every channel takes its report, then the Cam Unit. -/
theorem changeMode_drive (s : State) (m : Mode) :
    DriveRight s → DriveRight (s.changeMode m) ∧ ∀ o, (s.chan o).right → ((s.changeMode m).chan o).right := by
  have all : ∀ o : Output, o ∈ allOutputs := by decide
  have reported := reported_drive (s := s) (reportAll_reported { s with mode := m } allOutputs) rfl rfl rfl
    fun o out => absurd (all o) out
  intro h
  have cam : ∀ u : State, DriveRight u → DriveRight u.camModeReport ∧
      ∀ o, (u.chan o).right → (u.camModeReport.chan o).right := fun u => by
    unfold State.camModeReport State.takePending
    split
    · exact fun h => ⟨h, fun _ => id⟩
    · split
      · intro h
        exact takeCommit_drive { u with cam := { u.cam with passes := Vector.replicate 16 none } } .mode
          (drive_congr (s := u) rfl rfl rfl rfl rfl h).1
      · exact drive_congr rfl rfl rfl rfl rfl
  obtain ⟨drive, rights⟩ := reported h
  obtain ⟨driveAfter, rightsAfter⟩ := cam _ drive
  exact ⟨driveAfter, fun o => rightsAfter o ∘ rights o⟩

/-- In IDLE every channel is INHIBITED, so no set has an occupant or a waiting output. -/
theorem idle_inhibited (idle : s.mode ≠ .run) (h : DriveRight s) (o : Output) : (s.chan o).state = .inhibited :=
  (h.2.2 o).mpr (by simp [State.inhibitCondition, idle])

theorem standing_inhibited {c : Channel} (h : c.state = .inhibited) : standing c = (false, false) := by
  simp [standing, Channel.driving, h]

theorem idle_sets_empty (idle : s.mode ≠ .run) (h : DriveRight s) (i : SetId) :
    (s.iset i).occupants = [] ∧ (s.iset i).grants = [] := by
  obtain ⟨occupants, grants, -⟩ := h.1 i
  refine ⟨List.eq_nil_iff_forall_not_mem.mpr fun o m => ?_, List.eq_nil_iff_forall_not_mem.mpr fun o m => ?_⟩
  · have drives := ((occupants o).mp m).2
    simp [Channel.driving, idle_inhibited idle h o] at drives
  · have waits := ((grants o).mp m).2
    simp [idle_inhibited idle h o] at waits

/-- Outside RUN, sets without occupants and waiting outputs and INHIBITED channels are right whatever the profiles
say. -/
theorem driveRight_of_idle (idle : s.mode ≠ .run) (chans : ∀ o, (s.chan o).state = .inhibited)
    (sets : ∀ i, (s.iset i).occupants = [] ∧ (s.iset i).grants = []) : DriveRight s := by
  refine ⟨fun i => ?_, fun o q => by simp [chans] at q, fun o => ?_⟩
  · obtain ⟨occupants, grants⟩ := sets i
    simp [SetRight, occupants, grants, Channel.driving, chans]
  · simp [chans, State.inhibitCondition, idle]

theorem ownSetIset_drive (f : IsetFields) (s : State) :
    DriveRight s → DriveRight (ownSetIset f s).state ∧
      ∀ o, (s.chan o).right → ((ownSetIset f s).state.chan o).right := by
  intro h
  unfold ownSetIset
  split
  · exact ⟨h, fun _ => id⟩
  · rename_i m
    have idle : s.mode ≠ .run := by simp [not_not.mp m]
    have inhibited := idle_inhibited idle h
    refine ⟨driveRight_of_idle idle inhibited fun i => ?_, fun _ => id⟩
    dsimp only
    rw [State.setIset_iset]
    split
    · exact idle_sets_empty idle h f.set
    · exact idle_sets_empty idle h i

/-- In INHIBITED a recover timer may be moved, started or stopped (R19). -/
theorem recoverUnder_right {c : Channel} (e : c.state = .inhibited) (now : Time) (old new : Nat) (h : c.right) :
    Channel.right { c with recoverTimer := c.recoverUnder now old new } := by
  have stopped : c.lastStop = none → c.recoverUnder now old new = c.recoverTimer := fun n => by
    unfold Channel.recoverUnder
    rw [n]
    cases c.recoverTimer <;> rfl
  obtain ⟨demand, remembered, boost, maxOn, defer, start, recover, free, stop⟩ := h
  refine ⟨demand, remembered, boost, maxOn, defer, start, by simp [e], by simp [e, Channel.driving], fun r => ?_⟩
  cases l : c.lastStop with
  | some _ => rfl
  | none =>
    dsimp only at r
    rw [stopped l] at r
    simpa [l] using stop r

theorem ownSetProfile_drive (f : Output × Profile) (s : State) :
    DriveRight s → DriveRight (ownSetProfile f s).state ∧
      ∀ o, (s.chan o).right → ((ownSetProfile f s).state.chan o).right := by
  intro h
  obtain ⟨o, p⟩ := f
  unfold ownSetProfile
  dsimp only
  split
  · exact ⟨h, fun _ => id⟩
  · rename_i m
    have idle : s.mode ≠ .run := by simp [not_not.mp m]
    have inhibited := idle_inhibited idle h
    have empty := idle_sets_empty idle h
    split
    · exact ⟨h, fun _ => id⟩
    · split
      · exact ⟨h, fun _ => id⟩
      · refine ⟨driveRight_of_idle idle (fun q => ?_) empty, fun q right => ?_⟩ <;>
          dsimp only <;> rw [State.setChan_chan] <;> split
        · exact inhibited o
        · exact inhibited q
        · rename_i e
          exact recoverUnder_right (inhibited o) _ _ _ (e ▸ right)
        · exact right

theorem afterReset_chan (s : State) (cause : ResetCause) (baud : Baud) (o : Output) :
    (s.afterReset cause baud).chan o = Channel.afterReset := rd_replicate ..

theorem afterReset_iset (s : State) (cause : ResetCause) (baud : Baud) (i : SetId) :
    (s.afterReset cause baud).iset i = ISet.afterReset := rd_replicate ..

/-- After a reset the mode is IDLE, no set has a member, and the channels are INHIBITED with empty records. -/
theorem driveKept_reset (R : Prop) (s : State) (cause : ResetCause) (baud : Baud) :
    DriveKept R (s.afterReset cause baud) := by
  have idle : (s.afterReset cause baud).mode ≠ .run := by simp [State.afterReset]
  refine ⟨driveRight_of_idle idle (fun o => ?_) (fun i => ?_), fun _ o => ?_⟩
  · rw [afterReset_chan]; rfl
  · rw [afterReset_iset]; exact ⟨rfl, rfl⟩
  · rw [afterReset_chan]; simp [Channel.right, Channel.afterReset, Channel.driving]

theorem advance_chan (s : State) (o : Output) : s.advance.chan o = (s.chan o).tick := by
  simp [State.advance, State.chan, rd]

theorem tick_state (c : Channel) : c.tick.state = c.state := by
  unfold Channel.tick
  split <;> rfl

theorem tick_right {c : Channel} (h : c.right) : c.tick.right := by
  unfold Channel.tick
  split
  · exact h
  · exact h

theorem advance_drive (s : State) :
    DriveRight s → DriveRight s.advance ∧ ∀ o, (s.chan o).right → (s.advance.chan o).right := by
  rw [driveRight_iff, driveRight_iff]
  rintro ⟨sets, inhibits⟩
  have standings : ∀ o, standing (s.advance.chan o) = standing (s.chan o) := fun o => by
    rw [advance_chan]; exact standing_of_state (tick_state _)
  refine ⟨⟨sets.congr rfl rfl standings, fun o => ?_⟩, fun o r => ?_⟩
  · rw [advance_chan, tick_state]; exact inhibits o
  · rw [advance_chan]; exact tick_right r

theorem driveKept (R : Prop) : KeptBeside (DriveKept R) where
  upholds _ _ u p := p.of u.drive
  reset := driveKept_reset R
  advance s p := p.of (advance_drive s)
  setIset f s p := p.of (ownSetIset_drive f s)
  setProfile f s p := p.of (ownSetProfile_drive f s)
  start s p := by
    unfold ownStart
    split
    · exact p
    · exact p.of (changeMode_drive s _)
  stop s p := by
    unfold ownStop
    split
    · exact p
    · exact (p.of (changeMode_drive s _)).of (acts_drive (W := fun _ => False) (.purgeQueues _))
  pause s p := by
    unfold ownPause
    split
    · exact p
    · exact p.of (changeMode_drive s _)
  resume s p := by
    unfold ownResume
    split
    · exact p
    · exact p.of (changeMode_drive s _)
  setAngle f s p := by
    have configured : DriveKept R (s.setTracker (s.tracker.configured f)) := p.of (drive_congr rfl rfl rfl rfl rfl)
    rcases ownSetAngle_cases f s with e | ⟨-, e | ⟨-, e⟩⟩ <;> rw [e]
    · exact p
    · exact configured
    · exact (driveKept_turns R).trackerTo_of _ configured
  setCycle _ _ p := p.of (drive_congr rfl rfl rfl rfl rfl)
  pulse _ := (driveKept_turns R).pulse
  index _ := (driveKept_turns R).index
  stall _ := (driveKept_turns R).stall
  camPut _ w s _ p := by
    unfold ownCamPut
    dsimp only
    split
    · exact p
    · repeat' split
      all_goals exact p.of (drive_congr rfl rfl rfl rfl rfl)
  camDrop b s p := by
    unfold ownCamDrop
    repeat' split
    all_goals exact p.of (drive_congr rfl rfl rfl rfl rfl)
  camClear s p := by
    unfold ownCamClear
    split <;> exact p.of (drive_congr rfl rfl rfl rfl rfl)
  camCopy s p := by
    unfold ownCamCopy
    split <;> exact p.of (drive_congr rfl rfl rfl rfl rfl)
  camCommit s p := by
    unfold ownCamCommit
    dsimp only
    split
    · exact p
    · split
      · exact p.of (drive_congr rfl rfl rfl rfl rfl)
      · exact p.of (takeCommit_drive s _)
  camAbort s p := by
    unfold ownCamAbort
    split <;> exact p.of (drive_congr rfl rfl rfl rfl rfl)

end drive

/-- Settles O53: every owner keeps the sets and the inhibits right. -/
theorem driveRightKept : Obligations.DriveRightKept := by
  intro s t right h
  have kept : DriveKept False t := (driveKept False).kept.step h ⟨right, False.elim⟩
  exact kept.1

/-- Settles O54: every owner keeps the channels' records right where the sets are. -/
theorem channelsRightKept : Obligations.ChannelsRightKept := by
  intro s t ⟨right, channels⟩ h
  have kept : DriveKept True t := (driveKept True).kept.step h ⟨right, fun _ => channels⟩
  exact ⟨kept.1, kept.2 trivial⟩

end Sys2Proof.Laws.Invariants
end

section
/-! SUPPORT. The cam tables: which windows they hold, what a conflict of windows depends on, and the invariants that their
windows are right and do not conflict. -/

namespace Sys2Proof.Laws.Invariants

open Sys2Proof Sys2Proof.Machine Sys2Proof.Laws.Drive

/-! ## Windows of a table -/

theorem mem_windows {t : CamTable} {i : Slot} {w : Window} : (i, w) ∈ CamTable.windows t ↔ rd t i = some w := by
  have all : i ∈ allSlots := List.mem_finRange i
  simp only [CamTable.windows, List.mem_filterMap, Option.map_eq_some_iff, Prod.mk.injEq]
  constructor
  · rintro ⟨j, -, v, e, rfl, rfl⟩; exact e
  · intro e; exact ⟨i, all, w, e, rfl, rfl⟩

/-- A table that does not serve an output has no window for it. -/
theorem output_ne_of_not_serves {t : CamTable} {o : Output} (h : CamTable.serves t o = false) {i : Slot} {w : Window}
    (e : rd t i = some w) : w.output ≠ o := by
  intro same
  have found := (List.find?_eq_none (p := fun e : Slot × Window => e.2.output = o && true)).mp
    (by simpa [CamTable.serves, CamTable.findFor] using h) (i, w) (mem_windows.mpr e)
  simp [same] at found

/-- A table that does not reach an angle has all its angles below it. -/
theorem angles_of_not_reaches {t : CamTable} {l : Nat} (h : CamTable.reaches t l = false) {i : Slot} {w : Window}
    (e : rd t i = some w) : w.onAngle < l ∧ w.offAngle < l := by
  have below := List.any_eq_false.mp h (i, w) (mem_windows.mpr e)
  simp only [Bool.or_eq_true, decide_eq_true_eq, not_or, not_le] at below
  exact below

/-- The fields of CAM_PUT that the decoder checks. -/
theorem decodeCamPut_fields {body : List Byte} {w : Window} (h : decodeCamPut body = .ok w) :
    1 ≤ w.divisor ∧ w.divisor ≤ 8 ∧ w.phase < w.divisor := by
  unfold decodeCamPut at h
  split at h
  · rename_i o n0 n1 f0 f1 d p
    cases q : outputOf o with
    | none => simp [fieldOr, q] at h
    | some out =>
      simp only [fieldOr, q, Option.bind_eq_bind, Option.bind_some] at h
      split at h
      · rename_i e
        split at e
        · rename_i fields
          cases e; cases h
          exact fields
        · cases e
      · cases h
  · cases h

/-! ## Conflicts -/

theorem rangesConflict_symm (g : Nat) (a b : PieceRange) : rangesConflict g a b = rangesConflict g b a := by
  unfold rangesConflict
  rw [max_comm, min_comm, Bool.eq_iff_iff]
  simp only [Bool.and_eq_true, decide_eq_true_eq]
  exact and_congr_right fun _ => eq_comm

/-- Conflict is symmetric (R70). -/
theorem windowsConflict_symm (l : Nat) (v w : Window) : windowsConflict l v w = windowsConflict l w v := by
  unfold windowsConflict
  rw [Bool.eq_iff_iff, Nat.gcd_comm]
  simp only [Bool.and_eq_true, decide_eq_true_eq, List.any_eq_true]
  constructor
  · rintro ⟨e, a, ma, b, mb, c⟩
    exact ⟨e.symm, b, mb, a, ma, rangesConflict_symm _ a b ▸ c⟩
  · rintro ⟨e, a, ma, b, mb, c⟩
    exact ⟨e.symm, b, mb, a, ma, rangesConflict_symm _ a b ▸ c⟩

/-- The cycle length bounds the head of a wrapping window alone, which reaches beyond every other window's angles. -/
theorem windowsConflict_length {l m : Nat} {v w : Window} (vl : v.onAngle < l ∧ v.offAngle < l)
    (vm : v.onAngle < m ∧ v.offAngle < m) (wl : w.onAngle < l ∧ w.offAngle < l)
    (wm : w.onAngle < m ∧ w.offAngle < m) : windowsConflict l v w = windowsConflict m v w := by
  have heads : max v.onAngle w.onAngle < min l l ↔ max v.onAngle w.onAngle < min m m := by omega
  have headOff : ∀ x, max v.onAngle x < min l w.offAngle ↔ max v.onAngle x < min m w.offAngle := by omega
  have offHead : ∀ x, max x w.onAngle < min v.offAngle l ↔ max x w.onAngle < min v.offAngle m := by omega
  unfold windowsConflict windowRanges
  by_cases a : windowWraps v <;> by_cases b : windowWraps w <;>
    simp only [a, b, if_true, if_false, Bool.false_eq_true, List.any_cons, List.any_nil, rangesConflict, heads, headOff,
      offHead]

/-! ## The invariants -/

/-- The windows of both tables right, and, where it is asked, free of conflicts. -/
def TablesKept (R : Prop) (s : State) : Prop := TablesRight s ∧ (R → TablesDisjoint s)

section tables

variable {R : Prop} {s t : State}

/-- What the tables' rules speak of, apart from the tables. -/
theorem windowsRight_congr (profiles : t.profiles = s.profiles)
    (length : t.tracker.cycleLength = s.tracker.cycleLength) {x : CamTable} (h : WindowsRight s x) :
    WindowsRight t x := by
  intro i w e
  rw [profile_of_profiles profiles, length]
  exact h i w e

theorem TablesKept.congr (profiles : t.profiles = s.profiles)
    (length : t.tracker.cycleLength = s.tracker.cycleLength) (active : t.cam.active = s.cam.active)
    (shadow : t.cam.shadow = s.cam.shadow) (p : TablesKept R s) : TablesKept R t := by
  obtain ⟨⟨a, b⟩, disjoint⟩ := p
  refine ⟨⟨?_, ?_⟩, fun r => ?_⟩
  · rw [active]; exact windowsRight_congr profiles length a
  · rw [shadow]; exact windowsRight_congr profiles length b
  · rw [TablesDisjoint, active, shadow, length]; exact disjoint r

theorem TablesKept.calm {W : Output → Prop} (c : Calm W s t) (p : TablesKept R s) : TablesKept R t :=
  p.congr (outside_profiles c.outside) (by rw [outside_tracker c.outside]) (outside_active c.outside)
    (outside_shadow c.outside)

theorem TablesKept.post (b : NoticeBody) (p : TablesKept R s) : TablesKept R (s.post b) :=
  p.calm (W := fun _ => False) (.post b)

/-- A commit makes the active table the shadow. -/
theorem TablesKept.takeCommit (c : CommitCause) (p : TablesKept R s) : TablesKept R (s.takeCommit c) := by
  obtain ⟨⟨-, shadow⟩, disjoint⟩ := p
  exact TablesKept.post _ ⟨⟨shadow, shadow⟩, fun r => ⟨(disjoint r).2, (disjoint r).2⟩⟩

/-- A right shadow, free of conflicts, is written. -/
theorem TablesKept.setShadow {x : CamTable} (p : TablesKept R s) (right : WindowsRight s x)
    (free : R → NoConflicts s.tracker.cycleLength x) : TablesKept R (s.setShadow x) :=
  ⟨⟨p.1.1, right⟩, fun r => ⟨(p.2 r).1, free r⟩⟩

theorem tablesKept_turns (R : Prop) : KeptByTurns (TablesKept R) where
  tracker s _ e p := TablesKept.congr (s := s) rfl e rfl rfl p
  acts _ _ _ _ a p := p.calm a.toCalm
  commit _ c p := p.takeCommit c

theorem TablesKept.changeMode (m : Mode) (p : TablesKept R s) : TablesKept R (s.changeMode m) := by
  have reported : TablesKept R (State.reportAll { s with mode := m } allOutputs) :=
    TablesKept.calm (reportAll_reported _ _).toCalm (p.congr rfl rfl rfl rfl)
  unfold State.changeMode State.camModeReport
  split
  · exact reported
  · exact (tablesKept_turns R).takePending _ (reported.congr rfl rfl rfl rfl)

/-- A profile that keeps, or need not keep, the cam source of the tables' windows (R19). -/
theorem windowsRight_setProfile {o : Output} {p : Profile} {c : Channel} {x : CamTable} (h : WindowsRight s x)
    (safe : p.source = .cam ∨ ∀ i w, rd x i = some w → w.output ≠ o) :
    WindowsRight ((s.setProfile o p).setChan o c) x := by
  intro i w e
  obtain ⟨source, fields⟩ := h i w e
  refine ⟨?_, fields⟩
  simp only [State.setChan_profile, State.setProfile_profile]
  split
  · rename_i same; exact safe.resolve_right fun none => none i w e same
  · exact source

theorem TablesKept.ownSetProfile (f : Output × Profile) (p : TablesKept R s) :
    TablesKept R (ownSetProfile f s).state := by
  obtain ⟨o, x⟩ := f
  unfold Machine.ownSetProfile
  dsimp only
  split
  · exact p
  · split
    · exact p
    · split
      · exact p
      · rename_i unused
        have safe : ∀ t : CamTable, WindowsRight s t → (CamTable.serves t o = true →
            CamTable.serves s.cam.active o = true ∨ CamTable.serves s.cam.shadow o = true) →
            x.source = .cam ∨ ∀ i w, rd t i = some w → w.output ≠ o := fun t right serves => by
          by_cases new : x.source = .cam
          · exact .inl new
          · refine .inr fun i w e same => ?_
            have old := (right i w e).1
            rw [same] at old
            refine output_ne_of_not_serves ?_ e same
            exact Bool.eq_false_iff.mpr fun v => unused ⟨old, new, serves v⟩
        obtain ⟨⟨active, shadow⟩, disjoint⟩ := p
        exact ⟨⟨windowsRight_setProfile active (safe _ active .inl),
          windowsRight_setProfile shadow (safe _ shadow .inr)⟩, disjoint⟩

/-- A new cycle length above every angle keeps the windows right, and their conflicts. -/
theorem TablesKept.configured (f : AngleFields) (unused : f.cycleLength = 0 → s.camOutputs = [])
    (reached : f.cycleLength ≠ 0 → CamTable.reaches s.cam.active f.cycleLength = false ∧
      CamTable.reaches s.cam.shadow f.cycleLength = false) (p : TablesKept R s) :
    TablesKept R (s.setTracker (s.tracker.configured f)) := by
  have nonzero : ∀ {x : CamTable} {i w}, WindowsRight s x → rd x i = some w → f.cycleLength ≠ 0 :=
    fun right e zero => by
      have all : ∀ o : Output, o ∈ allOutputs := by decide
      have listed : ∀ o, o ∉ s.camOutputs := by simp [unused zero]
      exact listed _ (List.mem_filter.mpr ⟨all _, by simpa using (right _ _ e).1⟩)
  have angles : ∀ x : CamTable, WindowsRight s x → (f.cycleLength ≠ 0 → CamTable.reaches x f.cycleLength = false) →
      ∀ i w, rd x i = some w → w.onAngle < f.cycleLength ∧ w.offAngle < f.cycleLength :=
    fun x right reach i w e => angles_of_not_reaches (reach (nonzero right e)) e
  have right : ∀ x : CamTable, WindowsRight s x → (f.cycleLength ≠ 0 → CamTable.reaches x f.cycleLength = false) →
      WindowsRight (s.setTracker (s.tracker.configured f)) x := fun x h reach i w e => by
    obtain ⟨on, off⟩ := angles x h reach i w e
    obtain ⟨source, -, -, rest⟩ := h i w e
    exact ⟨source, on, off, rest⟩
  have free : ∀ x : CamTable, WindowsRight s x → (f.cycleLength ≠ 0 → CamTable.reaches x f.cycleLength = false) →
      NoConflicts s.tracker.cycleLength x → NoConflicts f.cycleLength x := fun x h reach none i j v w ev ew ne => by
    obtain ⟨-, vOn, vOff, -⟩ := h i v ev
    obtain ⟨-, wOn, wOff, -⟩ := h j w ew
    rw [← none i j v w ev ew ne]
    exact windowsConflict_length (angles x h reach i v ev) ⟨vOn, vOff⟩ (angles x h reach j w ew) ⟨wOn, wOff⟩
  obtain ⟨⟨active, shadow⟩, disjoint⟩ := p
  exact ⟨⟨right _ active fun n => (reached n).1, right _ shadow fun n => (reached n).2⟩, fun r =>
    ⟨free _ active (fun n => (reached n).1) (disjoint r).1, free _ shadow (fun n => (reached n).2) (disjoint r).2⟩⟩

/-- The window put is right, and conflicts with none of the shadow. -/
theorem TablesKept.ownCamPut {w : Window} (fields : 1 ≤ w.divisor ∧ w.divisor ≤ 8 ∧ w.phase < w.divisor)
    (p : TablesKept R s) : TablesKept R (ownCamPut w s).state := by
  unfold Machine.ownCamPut
  dsimp only
  split
  · exact p
  · split
    · exact p
    · rename_i source
      split
      · exact p
      · rename_i angles
        simp only [not_or, not_le] at angles
        split
        · exact p
        · rename_i slot _
          split
          · exact p
          · rename_i none
            have apart : ∀ i v, rd s.cam.shadow i = some v → windowsConflict s.tracker.cycleLength w v = false :=
              fun i v e => by simpa using List.find?_eq_none.mp none (i, v) (mem_windows.mpr e)
            refine p.setShadow (fun i v e => ?_) fun r i j v u ev eu ne => ?_
            · rw [rd_wr] at e
              split at e
              · cases e
                exact ⟨not_not.mp source, angles.1, angles.2.1, angles.2.2, fields⟩
              · exact p.1.2 i v e
            · rw [rd_wr] at ev eu
              split at ev <;> split at eu
              · rename_i a b; exact absurd (a.trans b.symm) ne
              · cases ev; exact apart j u eu
              · cases eu; rw [windowsConflict_symm]; exact apart i v ev
              · exact (p.2 r).2 i j v u ev eu ne

theorem TablesKept.ownCamDrop (b : Byte) (p : TablesKept R s) : TablesKept R (ownCamDrop b s).state := by
  unfold Machine.ownCamDrop
  split
  · exact p
  · split
    · exact p
    · split
      · exact p
      · rename_i slot _ _
        have held : ∀ i v, rd (wr s.cam.shadow slot none) i = some v → rd s.cam.shadow i = some v := fun i v e => by
          rw [rd_wr] at e
          split at e
          · cases e
          · exact e
        exact p.setShadow (fun i v e => p.1.2 i v (held i v e)) fun r i j v u ev eu =>
          (p.2 r).2 i j v u (held i v ev) (held j u eu)

theorem windowsRight_empty (s : State) : WindowsRight s (Vector.replicate 96 none) := fun i w e => by
  rw [rd_replicate] at e; cases e

theorem noConflicts_empty (l : Nat) : NoConflicts l (Vector.replicate 96 none) := fun i j v w e => by
  rw [rd_replicate] at e; cases e

theorem tablesKept (R : Prop) : KeptBeside (TablesKept R) where
  upholds _ _ u p := p.congr (congrArg (·.2.2.2.1) u.settled) (congrArg (·.2.2.1.cycleLength) u.settled)
    (congrArg (·.2.2.2.2.1) u.settled) (congrArg (·.2.2.2.2.2.1) u.settled)
  reset _ _ _ := ⟨⟨windowsRight_empty _, windowsRight_empty _⟩, fun _ => ⟨noConflicts_empty _, noConflicts_empty _⟩⟩
  advance _ p := p.congr rfl rfl rfl rfl
  setIset f s p := by
    unfold ownSetIset
    split <;> exact p.congr rfl rfl rfl rfl
  setProfile f _ p := p.ownSetProfile f
  start s p := by
    unfold ownStart
    split
    · exact p
    · exact p.changeMode _
  stop s p := by
    unfold ownStop
    split
    · exact p
    · exact (p.changeMode _).calm (W := fun _ => False) (Acts.purgeQueues _).toCalm
  pause s p := by
    unfold ownPause
    split
    · exact p
    · exact p.changeMode _
  resume s p := by
    unfold ownResume
    split
    · exact p
    · exact p.changeMode _
  setAngle f s p := by
    rcases ownSetAngle_cases f s with e | ⟨⟨-, -, unused, reached⟩, e | ⟨-, e⟩⟩ <;> rw [e]
    · exact p
    · exact p.configured f unused reached
    · exact (tablesKept_turns R).trackerTo_of _ (p.configured f unused reached)
  setCycle _ _ p := p.congr rfl rfl rfl rfl
  pulse _ := (tablesKept_turns R).pulse
  index _ := (tablesKept_turns R).index
  stall _ := (tablesKept_turns R).stall
  camPut _ _ _ d p := p.ownCamPut (decodeCamPut_fields d)
  camDrop b _ p := p.ownCamDrop b
  camClear s p := by
    unfold ownCamClear
    split
    · exact p
    · exact p.setShadow (windowsRight_empty s) fun _ => noConflicts_empty _
  camCopy s p := by
    unfold ownCamCopy
    split
    · exact p
    · exact p.setShadow p.1.1 fun r => (p.2 r).1
  camCommit s p := by
    unfold ownCamCommit
    dsimp only
    split
    · exact p
    · split
      · exact p.congr rfl rfl rfl rfl
      · exact p.takeCommit _
  camAbort s p := by
    unfold ownCamAbort
    split <;> exact p.congr rfl rfl rfl rfl

end tables

/-- Settles O57: CAM_PUT, SET_ANGLE and SET_PROFILE check what the windows need, and a commit copies the shadow. -/
theorem tablesRightKept : Obligations.TablesRightKept := by
  intro s t right h
  have kept : TablesKept False t := (tablesKept False).kept.step h ⟨right, False.elim⟩
  exact kept.1

/-- Settles O58: CAM_PUT refuses a conflict, and a new cycle length makes none. -/
theorem noConflictsKept : Obligations.NoConflictsKept := by
  intro s t right disjoint h
  have kept : TablesKept True t := (tablesKept True).kept.step h ⟨right, fun _ => disjoint⟩
  exact kept.2 trivial

end Sys2Proof.Laws.Invariants
end

section
/-! SUPPORT. The tracker's record, the pending commit and the passes through a change of mode, a change of tracker state
and the cam moves, and the invariants that speak of them. -/

namespace Sys2Proof.Laws.Invariants

open Sys2Proof Sys2Proof.Machine Sys2Proof.Laws.Drive

/-! ## A commit, a change of mode, a change of tracker state -/

section changes

variable {s t u : State}

theorem pass_of_cam {s t : State} (h : t.cam.passes = s.cam.passes) (o : Output) : t.pass o = s.pass o := by
  simp only [State.pass, h]

theorem takeCommit_mode (s : State) (c : CommitCause) : (s.takeCommit c).mode = s.mode := by
  unfold State.takeCommit; rw [post_frame]

theorem takeCommit_tracker (s : State) (c : CommitCause) : (s.takeCommit c).tracker = s.tracker := by
  unfold State.takeCommit; rw [post_frame]

theorem takeCommit_profile (s : State) (c : CommitCause) (o : Output) : (s.takeCommit c).profile o = s.profile o := by
  unfold State.takeCommit; rw [post_frame]; rfl

theorem takeCommit_commit (s : State) (c : CommitCause) : (s.takeCommit c).cam.commitPending = false := by
  unfold State.takeCommit; rw [post_frame]

theorem takeCommit_pass (s : State) (c : CommitCause) (o : Output) : (s.takeCommit c).pass o = s.pass o := by
  unfold State.takeCommit; rw [post_frame]; rfl

theorem takePending_mode (s : State) (c : CommitCause) : (s.takePending c).mode = s.mode := by
  unfold State.takePending; split
  · exact takeCommit_mode s c
  · rfl

theorem takePending_tracker (s : State) (c : CommitCause) : (s.takePending c).tracker = s.tracker := by
  unfold State.takePending; split
  · exact takeCommit_tracker s c
  · rfl

theorem takePending_commit (s : State) (c : CommitCause) : (s.takePending c).cam.commitPending = false := by
  unfold State.takePending; split
  · exact takeCommit_commit s c
  · rename_i h; simpa using h

theorem takePending_pass (s : State) (c : CommitCause) (o : Output) : (s.takePending c).pass o = s.pass o := by
  unfold State.takePending; split
  · exact takeCommit_pass s c o
  · rfl

/-- A pass that stands after an operation of the channels stood before it. -/
theorem pass_before {W : Output → Prop} (c : Calm W s t) {o : Output} (h : (t.pass o).isSome = true) (w : ¬ W o) :
    (s.pass o).isSome = true := by
  rcases c.passes o with e | e | m
  · exact e ▸ h
  · simp [e] at h
  · exact absurd m w

theorem changeMode_tracker (s : State) (m : Mode) : (s.changeMode m).tracker = s.tracker := by
  have reported := outside_tracker (reportAll_reported { s with mode := m } allOutputs).outside
  unfold State.changeMode State.camModeReport
  split
  · exact reported
  · rw [takePending_tracker]; exact reported

theorem changeMode_mode (s : State) (m : Mode) : (s.changeMode m).mode = m := by
  have reported := outside_mode (reportAll_reported { s with mode := m } allOutputs).outside
  unfold State.changeMode State.camModeReport
  split
  · exact reported
  · rw [takePending_mode]; exact reported

theorem changeMode_commit (s : State) (m : Mode) :
    (s.changeMode m).cam.commitPending = (m = .run && s.cam.commitPending) := by
  have reported := (reportAll_reported { s with mode := m } allOutputs).outside
  have mode : (State.reportAll { s with mode := m } allOutputs).mode = m := outside_mode reported
  unfold State.changeMode State.camModeReport
  rw [mode]
  split
  · rename_i run; simpa [run] using outside_commit reported
  · rename_i run; simp [run, takePending_commit]

theorem changeMode_pass (s : State) (m : Mode) (o : Output) (h : ((s.changeMode m).pass o).isSome = true) :
    m = .run ∧ (s.pass o).isSome = true := by
  have reported := reportAll_reported { s with mode := m } allOutputs
  have mode : (State.reportAll { s with mode := m } allOutputs).mode = m := outside_mode reported.outside
  unfold State.changeMode State.camModeReport at h
  rw [mode] at h
  split at h
  · rename_i run
    exact ⟨run, (pass_before reported.toCalm h id : (State.pass { s with mode := m } o).isSome = true)⟩
  · rw [takePending_pass] at h
    simp [State.pass, rd_replicate] at h

/-- After its fall a cam output has no pass. -/
theorem camFall_pass (s : State) (o : Output) : (s.camFall o).pass o = none := by
  unfold State.camFall
  split
  · rename_i p _
    have fell : ((s.setPass o none).demandFall o).2.pass o = none := by
      have calm : Calm (fun _ => False) (s.setPass o none) ((s.setPass o none).demandFall o).2 :=
        Acts.demandFall.toCalm
      simpa using calm.passes o
    split <;> (rename_i w; rw [w] at fell)
    · rw [pass_of_cam (congrArg CamUnit.passes (post_cam ..))]; exact fell
    · exact fell
  · rename_i h; exact h

theorem camFalls_pass (os : List Output) (s : State) {o : Output} (m : o ∈ os ∨ s.pass o = none) :
    (os.foldl State.camFall s).pass o = none := by
  induction os generalizing s with
  | nil => simpa using m
  | cons p os ih =>
    refine ih _ ?_
    by_cases e : o = p
    · subst e; exact .inr (camFall_pass s o)
    · rcases m with m | m
      · exact .inl ((List.mem_cons.mp m).resolve_left e)
      · have calm : Calm (fun _ => False) s (s.camFall p) := Acts.camFall.toCalm
        rcases calm.pass_ended o with same | none
        · exact .inr (same.trans m)
        · exact .inr none

/-- The end of every pass leaves none on a cam output (R85). -/
theorem endPasses_pass (s : State) {o : Output} (cam : (s.profile o).source = .cam) : s.endPasses.pass o = none := by
  have all : ∀ o : Output, o ∈ allOutputs := by decide
  exact camFalls_pass _ s (.inl (List.mem_filter.mpr ⟨all o, by simpa using cam⟩))

/-- The state of a change of tracker state before a pending commit is looked at. -/
theorem trackerTo_before (s : State) (t : Tracker) (cause : TrackerCause) : ∃ u : State,
    Calm (fun _ => False) (s.setTracker t) u ∧
      (s.tracker.state = .synced ∧ t.state ≠ .synced → ∀ o, (s.profile o).source = .cam → u.pass o = none) ∧
      s.trackerTo t cause =
        if s.tracker.state.tracking ∧ !t.state.tracking then u.takePending .tracker else u := by
  have posted : Calm (fun _ => False) (s.setTracker t)
      (State.post (s.setTracker t) (.tracker s.tracker.state t.state cause)) := .post _
  refine ⟨_, ?_, fun left o cam => ?_, rfl⟩
  · split
    · exact posted.trans Acts.endPasses.toCalm
    · exact posted
  · rw [if_pos left]
    exact endPasses_pass _ ((congrArg Profile.source (outside_profile posted.outside o)).trans cam)

theorem trackerTo_tracker (s : State) (t : Tracker) (cause : TrackerCause) : (s.trackerTo t cause).tracker = t := by
  obtain ⟨u, calm, -, e⟩ := trackerTo_before s t cause
  have tracker : u.tracker = t := outside_tracker calm.outside
  rw [e]
  split
  · rw [takePending_tracker, tracker]
  · exact tracker

theorem trackerTo_mode (s : State) (t : Tracker) (cause : TrackerCause) : (s.trackerTo t cause).mode = s.mode := by
  obtain ⟨u, calm, -, e⟩ := trackerTo_before s t cause
  have mode : u.mode = s.mode := outside_mode (s := s.setTracker t) calm.outside
  rw [e]
  split
  · rw [takePending_mode, mode]
  · exact mode

/-- A commit stays pending only where it was, unless the tracker leaves SYNCED and STALLED (R86). -/
theorem trackerTo_commit (s : State) (t : Tracker) (cause : TrackerCause)
    (h : (s.trackerTo t cause).cam.commitPending = true) :
    s.cam.commitPending = true ∧ (s.tracker.state.tracking = true → t.state.tracking = true) := by
  obtain ⟨u, calm, -, e⟩ := trackerTo_before s t cause
  have commit : u.cam.commitPending = s.cam.commitPending := outside_commit (s := s.setTracker t) calm.outside
  rw [e] at h
  split at h
  · simp [takePending_commit] at h
  · rename_i stays
    refine ⟨commit ▸ h, fun old => ?_⟩
    simpa [old] using stays

/-- A pass stays only where it was, and on a cam output only where the tracker does not leave SYNCED (R85). -/
theorem trackerTo_pass (s : State) (t : Tracker) (cause : TrackerCause) {o : Output}
    (h : ((s.trackerTo t cause).pass o).isSome = true) :
    (s.pass o).isSome = true ∧
      ((s.profile o).source = .cam → s.tracker.state = .synced → t.state = .synced) := by
  obtain ⟨u, calm, ended, e⟩ := trackerTo_before s t cause
  have here : (u.pass o).isSome = true := by
    rw [e] at h
    split at h
    · rwa [takePending_pass] at h
    · exact h
  refine ⟨(pass_before calm here id : ((s.setTracker t).pass o).isSome = true), fun cam synced => ?_⟩
  by_contra left
  simp [ended ⟨synced, left⟩ o cam] at here

/-! ## The Cam Unit's events -/

/-- What a position or an index event does beside the moves: the mode, the tracker and the profiles stay, no commit comes
to be pending, and a pass is new in RUN on a cam output alone. -/
structure CamEvent (s t : State) : Prop where
  mode : t.mode = s.mode
  tracker : t.tracker = s.tracker
  profile : ∀ o, t.profile o = s.profile o
  commit : t.cam.commitPending = true → s.cam.commitPending = true
  passes : ∀ o, (t.pass o).isSome = true → (s.pass o).isSome = true ∨ s.mode = .run ∧ (s.profile o).source = .cam

theorem CamEvent.refl : CamEvent s s := ⟨rfl, rfl, fun _ => rfl, id, fun _ => .inl⟩

theorem CamEvent.rounds (run : s.mode = .run) (d : Output → CamMove) : CamEvent s (s.camRounds d) :=
  have rounds := (Acts.camRounds (s := s) d).toCalm
  ⟨outside_mode rounds.outside, outside_tracker rounds.outside, outside_profile rounds.outside,
    fun c => outside_commit rounds.outside ▸ c, fun o h => by
      by_cases cam : (s.profile o).source = .cam
      · exact .inr ⟨run, cam⟩
      · exact .inl (pass_before rounds h cam)⟩

theorem camPosition_event (s : State) (x : Nat) : CamEvent s (s.camPosition x) := by
  unfold State.camPosition
  split
  · rename_i run; exact .rounds run _
  · exact .refl

theorem camIndex_event (s : State) (c : Time) : CamEvent s (s.camIndex c) := by
  unfold State.camIndex
  split
  · rename_i run
    split
    · rename_i pending
      have rounds := CamEvent.rounds ((takeCommit_mode s .index).trans run) ((s.takeCommit .index).swapMove c)
      refine ⟨rounds.mode.trans (takeCommit_mode ..), rounds.tracker.trans (takeCommit_tracker ..),
        fun o => (rounds.profile o).trans (takeCommit_profile ..), fun _ => pending, fun o h => ?_⟩
      rw [← takeCommit_pass s .index o, ← takeCommit_mode s .index, ← takeCommit_profile s .index o]
      exact rounds.passes o h
    · exact .rounds run _
  · exact .refl

end changes

/-! ## The tracker's record -/

section records

variable {t : Tracker}

theorem startStall_fields (t : Tracker) (now : Time) :
    (t.startStall now) = { t with stallTimer := (t.startStall now).stallTimer } ∧
      ((t.startStall now).stallTimer.isSome = true → t.stallTimeout ≠ 0) := by
  unfold Tracker.startStall
  refine ⟨rfl, fun h => ?_⟩
  dsimp only at h
  split at h
  · cases h
  · assumption

/-- The record of a turn that goes on, the stall timer restarted (R8, R9). -/
theorem right_turning (right : t.right) (now : Time) (cycle : Time) {pulses : Nat}
    (range : pulses ≤ t.cycleLength + t.tolerance) (on : t.state ≠ .off) :
    Tracker.right ({ t with
      state := .synced, cycle := cycle, pulses := pulses, position := min pulses (t.cycleLength - 1) }.startStall
        now) := by
  obtain ⟨off, tolerance, -⟩ := right
  have length : t.cycleLength ≠ 0 := fun e => on (off.mpr e)
  obtain ⟨fields, timer⟩ := startStall_fields
    { t with state := .synced, cycle := cycle, pulses := pulses, position := min pulses (t.cycleLength - 1) } now
  rw [fields]
  refine ⟨by simp [length], tolerance, by simp, by simp [range], Nat.le_succ_of_le range, fun h => ⟨rfl, timer h⟩⟩

/-- A record without a position and with the stall timer stopped (R6, R10). -/
theorem right_searching (right : t.right) (on : t.state ≠ .off) {state : TrackerState}
    (searching : state = .unsynced ∨ state = .verifying) {pulses : Nat}
    (range : pulses ≤ t.cycleLength + t.tolerance + 1) :
    Tracker.right { t with state := state, pulses := pulses, position := 0, stallTimer := none } := by
  obtain ⟨off, tolerance, -⟩ := right
  have length : t.cycleLength ≠ 0 := fun e => on (off.mpr e)
  rcases searching with e | e <;> subst e <;> exact ⟨by simp [length], tolerance, by simp, by simp, range, by simp⟩

end records

/-! ## The tracker and the commit -/

/-- The tracker's record right, and a commit pending only where one may be. -/
def TrackKept (s : State) : Prop := s.tracker.right ∧ CommitRight s

section track

variable {s t : State}

theorem TrackKept.congr (tracker : t.tracker = s.tracker) (mode : t.mode = s.mode)
    (commit : t.cam.commitPending = true → s.cam.commitPending = true) (p : TrackKept s) : TrackKept t := by
  refine ⟨tracker ▸ p.1, fun c => ?_⟩
  rw [mode, tracker]
  exact p.2 (commit c)

theorem TrackKept.event (e : CamEvent s t) (p : TrackKept s) : TrackKept t := p.congr e.tracker e.mode e.commit

/-- A record of the same state of the tracker, or one under which no commit is pending. -/
theorem TrackKept.setTracker {x : Tracker} (right : x.right) (state : x.state = s.tracker.state ∨ s.mode ≠ .run)
    (p : TrackKept s) : TrackKept (s.setTracker x) := by
  refine ⟨right, fun c => ?_⟩
  obtain ⟨run, tracking⟩ := p.2 c
  exact ⟨run, by rw [State.setTracker_tracker, state.resolve_right (not_not.mpr run)]; exact tracking⟩

theorem TrackKept.trackerTo {x : Tracker} (right : x.right) (cause : TrackerCause) (p : TrackKept s) :
    TrackKept (s.trackerTo x cause) := by
  refine ⟨(trackerTo_tracker s x cause).symm ▸ right, fun c => ?_⟩
  obtain ⟨pending, tracking⟩ := trackerTo_commit s x cause c
  obtain ⟨run, old⟩ := p.2 pending
  rw [trackerTo_mode, trackerTo_tracker]
  exact ⟨run, tracking old⟩

theorem TrackKept.changeMode {m : Mode} (h : m = .run → s.mode ≠ .run) (p : TrackKept s) :
    TrackKept (s.changeMode m) := by
  refine ⟨(changeMode_tracker s m).symm ▸ p.1, fun c => ?_⟩
  rw [changeMode_commit] at c
  simp only [Bool.and_eq_true, decide_eq_true_eq] at c
  exact absurd (p.2 c.2).1 (h c.1)

/-- A pulse in SYNCED counts, or loses the index (R8). -/
theorem TrackKept.pulseSynced (synced : s.tracker.state = .synced) (p : TrackKept s) : TrackKept s.pulseSynced := by
  have on : s.tracker.state ≠ .off := by simp [synced]
  obtain ⟨-, -, -, -, pulses, -⟩ := p.1
  have turned : ∀ pulses, pulses ≤ s.tracker.cycleLength + s.tracker.tolerance →
      TrackKept (s.setTracker { s.tracker.startStall s.now with
        pulses := pulses, position := min pulses (s.tracker.cycleLength - 1) }) := fun pulses range => by
    have right := right_turning p.1 s.now s.tracker.cycle range on
    rw [← synced] at right
    exact p.setTracker right (.inl rfl)
  unfold State.pulseSynced
  dsimp only
  split
  · rename_i below
    split
    · exact turned _ below
    · exact (turned _ below).event (camPosition_event ..)
  · exact p.trackerTo (right_searching p.1 on (.inl rfl) (Nat.zero_le _)) _

/-- A motion returns a STALLED tracker to SYNCED with its counts (R12). -/
theorem TrackKept.motion (stalled : s.tracker.state = .stalled) (p : TrackKept s) : TrackKept s.motion := by
  obtain ⟨-, -, -, counts, -⟩ := p.1
  obtain ⟨position, range⟩ := counts (.inr stalled)
  have right := right_turning p.1 s.now s.tracker.cycle range (by simp [stalled])
  rw [← position] at right
  exact p.trackerTo right _

theorem motion_tracker (s : State) : s.motion.tracker = { s.tracker with state := .synced }.startStall s.now :=
  trackerTo_tracker ..

theorem motion_synced (s : State) : s.motion.tracker.state = .synced := by rw [motion_tracker]; rfl

theorem TrackKept.pulse (p : TrackKept s) : TrackKept s.pulse := by
  unfold State.pulse
  dsimp only
  split
  · exact p
  · exact p
  · rename_i verifying
    obtain ⟨off, tolerance, position, -, -, timer⟩ := p.1
    refine p.setTracker ⟨off, tolerance, position, by simp [verifying], Nat.min_le_right .., timer⟩ (.inl rfl)
  · rename_i synced; exact p.pulseSynced synced
  · rename_i stalled; exact (p.motion stalled).pulseSynced (motion_synced s)

/-- An accepted index begins a turn (R9). -/
theorem TrackKept.acceptIndex (p : TrackKept s) : TrackKept s.acceptIndex := by
  obtain ⟨off, tolerance, -, -, -, timer⟩ := p.1
  have right : Tracker.right { s.tracker with cycle := s.tracker.cycle + 1, pulses := 0, position := 0 } :=
    ⟨off, tolerance, by simp, by simp, Nat.zero_le _, timer⟩
  exact TrackKept.event (camIndex_event ..) (p.setTracker right (.inl rfl))

theorem TrackKept.loseSync (on : s.tracker.state ≠ .off) (p : TrackKept s) : TrackKept s.loseSync :=
  p.trackerTo (right_searching p.1 on (.inr rfl) (Nat.zero_le _)) _

theorem TrackKept.index (p : TrackKept s) : TrackKept s.index := by
  unfold State.index
  dsimp only
  split
  · exact p
  · rename_i unsynced
    obtain ⟨off, tolerance, position, -, -, timer⟩ := p.1
    have length : s.tracker.cycleLength ≠ 0 := fun e => by simpa [unsynced] using off.mpr e
    have right : Tracker.right { s.tracker with state := .verifying, pulses := 0 } :=
      ⟨by simp [length], tolerance, fun _ => position (by simp [unsynced]), by simp, Nat.zero_le _,
        fun h => by simp [unsynced] at timer; simp [timer] at h⟩
    exact p.trackerTo right _
  · rename_i verifying
    split
    · have right := right_turning p.1 s.now (s.tracker.cycle + 1) (pulses := 0) (Nat.zero_le _) (by simp [verifying])
      rw [Nat.zero_min] at right
      exact p.trackerTo right _
    · obtain ⟨off, tolerance, position, -, -, timer⟩ := p.1
      exact p.setTracker ⟨off, tolerance, position, by simp [verifying], Nat.zero_le _, timer⟩ (.inl rfl)
  · rename_i synced
    split
    · exact p.acceptIndex
    · exact p.loseSync (by simp [synced])
  · rename_i stalled
    split
    · exact (p.motion stalled).acceptIndex
    · exact p.loseSync (by simp [stalled])

theorem TrackKept.stall (p : TrackKept s) : TrackKept s.stallExpiry := by
  unfold State.stallExpiry
  dsimp only
  split
  · rename_i h
    obtain ⟨off, tolerance, -, counts, pulses, -⟩ := p.1
    have length : s.tracker.cycleLength ≠ 0 := fun e => by simpa [h.2] using off.mpr e
    have right : Tracker.right { s.tracker with state := .stalled, stallTimer := none } :=
      ⟨by simp [length], tolerance, by simp, fun _ => counts (.inl h.2), pulses, by simp⟩
    exact p.trackerTo right _
  · exact p

theorem trackKept : KeptBeside TrackKept where
  upholds s t u p := p.congr (congrArg (·.2.2.1) u.settled) (congrArg (·.2.1) u.settled) fun c =>
    (congrArg (·.2.2.2.2.2.2) u.settled : t.cam.commitPending = s.cam.commitPending) ▸ c
  reset s cause baud := by
    refine ⟨?_, fun c => ?_⟩
    · simp [State.afterReset, Tracker.right, Tracker.afterReset]
    · simp [State.afterReset, CamUnit.afterReset] at c
  advance _ p := p.congr rfl rfl id
  setIset f s p := by
    unfold ownSetIset
    split <;> exact p.congr rfl rfl id
  setProfile f s p := by
    unfold ownSetProfile
    dsimp only
    repeat' split
    all_goals exact p.congr rfl rfl id
  start s p := by
    unfold ownStart
    split
    · exact p
    · rename_i idle; exact p.changeMode fun _ => by simp [not_not.mp idle]
  stop s p := by
    unfold ownStop
    split
    · exact p
    · have changed := p.changeMode (m := .idle) (by simp)
      have purged := Acts.purgeQueues (W := fun _ => False) (s := s.changeMode .idle) allOutputs
      exact changed.congr (outside_tracker purged.outside) (outside_mode purged.outside) fun c =>
        outside_commit purged.outside ▸ c
  pause s p := by
    unfold ownPause
    split
    · exact p
    · exact p.changeMode (by simp)
  resume s p := by
    unfold ownResume
    split
    · exact p
    · rename_i paused; exact p.changeMode fun _ => by simp [not_not.mp paused]
  setAngle f s p := by
    have right : (4 * f.tolerance < f.cycleLength ∨ f.cycleLength = 0) → (s.tracker.configured f).right :=
      fun h => by
        unfold Tracker.configured Tracker.right
        by_cases zero : f.cycleLength = 0
        · simp [zero]
        · simp [zero, h.resolve_right zero]
    rcases ownSetAngle_cases f s with e | ⟨⟨idle, tolerance, -⟩, e⟩
    · rw [e]; exact p
    · have configured := right (or_iff_not_imp_right.mpr tolerance)
      rcases e with e | ⟨-, e⟩ <;> rw [e]
      · exact p.setTracker configured (.inr (by simp [idle]))
      · exact p.trackerTo configured _
  setCycle c s p := p.setTracker p.1 (.inl rfl)
  pulse _ p := p.pulse
  index _ p := p.index
  stall _ p := p.stall
  camPut _ w s _ p := by
    unfold ownCamPut
    dsimp only
    repeat' split
    all_goals exact p.congr rfl rfl id
  camDrop b s p := by
    unfold ownCamDrop
    repeat' split
    all_goals exact p.congr rfl rfl id
  camClear s p := by
    unfold ownCamClear
    split <;> exact p.congr rfl rfl id
  camCopy s p := by
    unfold ownCamCopy
    split <;> exact p.congr rfl rfl id
  camCommit s p := by
    unfold ownCamCommit
    dsimp only
    split
    · exact p
    · split
      · rename_i waits; exact ⟨p.1, fun _ => waits⟩
      · exact p.congr (takeCommit_tracker ..) (takeCommit_mode ..) fun c => by simp [takeCommit_commit] at c
  camAbort s p := by
    unfold ownCamAbort
    split
    · exact TrackKept.congr (s := s) rfl rfl (fun c => by cases c) p
    · exact p

end track

/-! ## The passes -/

section passes

variable {s t : State}

/-- No pass is new, and what passes need stands as before. -/
theorem passesPlaced_congr (mode : t.mode = s.mode) (tracker : t.tracker.state = s.tracker.state)
    (profile : ∀ o, t.profile o = s.profile o) (passes : ∀ o, (t.pass o).isSome = true → (s.pass o).isSome = true)
    (p : PassesPlaced s) : PassesPlaced t := by
  intro o h
  rw [mode, tracker, profile]
  exact p o (passes o h)

/-- Where no pass stands, none is misplaced. -/
theorem passesPlaced_of_none (h : ∀ o, t.pass o = none) : PassesPlaced t := by
  intro o m; simp [h] at m

theorem no_pass (p : PassesPlaced s) (h : s.mode ≠ .run ∨ s.tracker.state ≠ .synced) (o : Output) :
    s.pass o = none := by
  by_contra some
  obtain ⟨run, synced, -⟩ := p o (Option.isSome_iff_ne_none.mpr some)
  exact h.elim (· run) (· synced)

theorem passesPlaced_event (e : CamEvent s t) (synced : s.tracker.state = .synced) (p : PassesPlaced s) :
    PassesPlaced t := by
  intro o h
  rw [e.mode, e.tracker, e.profile]
  rcases e.passes o h with old | ⟨run, cam⟩
  · exact p o old
  · exact ⟨run, synced, cam⟩

/-- Whatever the tracker changes to: passes stand only on cam outputs, and there they end as it leaves SYNCED. -/
theorem passesPlaced_trackerTo (x : Tracker) (cause : TrackerCause) (p : PassesPlaced s) :
    PassesPlaced (s.trackerTo x cause) := by
  have profiles : ∀ o, (s.trackerTo x cause).profile o = s.profile o := fun o => by
    have same := (trackerTo_before s x cause)
    obtain ⟨u, calm, -, e⟩ := same
    rw [e]
    split
    · unfold State.takePending
      split
      · exact (takeCommit_profile ..).trans (outside_profile calm.outside o)
      · exact outside_profile calm.outside o
    · exact outside_profile calm.outside o
  intro o h
  obtain ⟨old, stays⟩ := trackerTo_pass s x cause h
  obtain ⟨run, synced, cam⟩ := p o old
  rw [trackerTo_mode, trackerTo_tracker, profiles]
  exact ⟨run, stays cam synced, cam⟩

theorem passesPlaced_changeMode {m : Mode} (h : m = .run → s.mode ≠ .run) (p : PassesPlaced s) :
    PassesPlaced (s.changeMode m) := by
  intro o some
  obtain ⟨run, old⟩ := changeMode_pass s m o some
  exact absurd (p o old).1 (h run)

theorem passesPlaced_setTracker {x : Tracker} (state : x.state = s.tracker.state) (p : PassesPlaced s) :
    PassesPlaced (s.setTracker x) := 
  passesPlaced_congr (s := s) rfl state (fun _ => rfl) (fun _ => id) p

theorem passesPlaced_pulseSynced (synced : s.tracker.state = .synced) (p : PassesPlaced s) :
    PassesPlaced s.pulseSynced := by
  unfold State.pulseSynced
  dsimp only
  split
  · split
    · exact passesPlaced_setTracker rfl p
    · exact passesPlaced_event (camPosition_event ..) synced (passesPlaced_setTracker rfl p)
  · exact passesPlaced_trackerTo _ _ p

theorem passesPlaced_acceptIndex (synced : s.tracker.state = .synced) (p : PassesPlaced s) :
    PassesPlaced s.acceptIndex :=
  passesPlaced_event (camIndex_event ..) synced (passesPlaced_setTracker rfl p)

theorem passesKept_cases : KeptBeside PassesPlaced where
  upholds s t u p := passesPlaced_congr (congrArg (·.2.1) u.settled) (congrArg (·.2.2.1.state) u.settled)
    (profile_of_profiles (congrArg (·.2.2.2.1) u.settled))
    (fun o h => (u.passes o).elim (fun e => e ▸ h) fun e => by simp [e] at h) p
  reset s cause baud := passesPlaced_of_none fun o => rd_replicate ..
  advance _ p := p
  setIset f s p := by
    unfold ownSetIset
    split <;> exact p
  setProfile f s p := by
    unfold ownSetProfile
    dsimp only
    split
    · exact p
    · rename_i idle
      have none := no_pass p (.inl (by simp [not_not.mp idle]))
      split
      · exact p
      · split
        · exact p
        · exact passesPlaced_of_none none
  start s p := by
    unfold ownStart
    split
    · exact p
    · rename_i idle; exact passesPlaced_changeMode (fun _ => by simp [not_not.mp idle]) p
  stop s p := by
    unfold ownStop
    split
    · exact p
    · have purged := Acts.purgeQueues (W := fun _ => False) (s := s.changeMode .idle) allOutputs
      exact passesPlaced_congr (outside_mode purged.outside) (by rw [outside_tracker purged.outside])
        (outside_profile purged.outside) (fun o h => pass_before purged.toCalm h id)
        (passesPlaced_changeMode (by simp) p)
  pause s p := by
    unfold ownPause
    split
    · exact p
    · exact passesPlaced_changeMode (by simp) p
  resume s p := by
    unfold ownResume
    split
    · exact p
    · rename_i paused; exact passesPlaced_changeMode (fun _ => by simp [not_not.mp paused]) p
  setAngle f s p := by
    rcases ownSetAngle_cases f s with e | ⟨⟨idle, -⟩, e | ⟨-, e⟩⟩ <;> rw [e]
    · exact p
    · have none := no_pass p (.inl (by simp [idle]))
      exact passesPlaced_of_none none
    · exact passesPlaced_trackerTo _ _ p
  setCycle _ _ p := passesPlaced_setTracker rfl p
  pulse s p := by
    unfold State.pulse
    dsimp only
    split
    · exact p
    · exact p
    · exact passesPlaced_setTracker rfl p
    · rename_i synced; exact passesPlaced_pulseSynced synced p
    · exact passesPlaced_pulseSynced (motion_synced s) (passesPlaced_trackerTo _ _ p)
  index s p := by
    unfold State.index
    dsimp only
    split
    · exact p
    · exact passesPlaced_trackerTo _ _ p
    · split
      · exact passesPlaced_trackerTo _ _ p
      · exact passesPlaced_setTracker rfl p
    · rename_i synced
      split
      · exact passesPlaced_acceptIndex synced p
      · exact passesPlaced_trackerTo _ _ p
    · split
      · exact passesPlaced_acceptIndex (motion_synced s) (passesPlaced_trackerTo _ _ p)
      · exact passesPlaced_trackerTo _ _ p
  stall s p := by
    unfold State.stallExpiry
    dsimp only
    split
    · exact passesPlaced_trackerTo _ _ p
    · exact p
  camPut _ w s _ p := by
    unfold ownCamPut
    dsimp only
    repeat' split
    all_goals exact p
  camDrop b s p := by
    unfold ownCamDrop
    repeat' split
    all_goals exact p
  camClear s p := by
    unfold ownCamClear
    split <;> exact p
  camCopy s p := by
    unfold ownCamCopy
    split <;> exact p
  camCommit s p := by
    unfold ownCamCommit
    dsimp only
    split
    · exact p
    · split
      · exact p
      · exact passesPlaced_congr (takeCommit_mode ..) (by rw [takeCommit_tracker])
          (takeCommit_profile s _) (fun o h => takeCommit_pass s .order o ▸ h) p
  camAbort s p := by
    unfold ownCamAbort
    split <;> exact p

end passes

/-- Settles O55: each event of the tracker, by the state it finds. -/
theorem trackerRightKept : Obligations.TrackerRightKept := by
  intro s t right h
  exact (trackKept.kept.step h right : TrackKept t)

/-- Settles O56: passes begin in the rounds of a cam event alone, and end as their conditions go away. -/
theorem passesKept : Obligations.PassesKept := by
  intro s t placed h
  exact passesKept_cases.kept.step h placed

end Sys2Proof.Laws.Invariants
end

section
/-! SUPPORT. The trip sources bit by bit, what an evaluation does to a group by its state, and the invariant that the
filters and the groups are right. -/

namespace Sys2Proof.Laws.Trips

open Sys2Proof Sys2Proof.Machine Sys2Proof.Laws.Drive Sys2Proof.Laws.Invariants

/-! ## Source masks -/

/-- The bits of a source mask, lowest first (R172). -/
theorem sourceMask_bit (f0 f1 f2 f3 link low high host : Bool) (k : Fin 8) :
    (sourceMask f0 f1 f2 f3 link low high host).getLsbD k.val =
      ([f0, f1, f2, f3, link, low, high, host] : List Bool)[k.val] := by
  fin_cases k <;> revert f0 f1 f2 f3 link low high host <;> decide

/-- The one bit of a fault input's mask. -/
theorem inputMask_bit (i : InputId) (k : Fin 8) : (inputMask i).getLsbD k.val = (k.val = i.val : Bool) := by
  revert i k; decide

theorem linkMask_bit (k : Fin 8) : linkMask.getLsbD k.val = (k.val = 4 : Bool) := by
  revert k; decide

/-- Two masks that differ only in some bits show the same to who watches none of them. -/
theorem and_eq_of_apart {watched mask x y : Byte} (apart : watched &&& mask = 0)
    (same : ∀ k : Fin 8, mask.getLsbD k.val = false → x.getLsbD k.val = y.getLsbD k.val) :
    watched &&& x = watched &&& y := by
  refine BitVec.eq_of_getLsbD_eq fun k lt => ?_
  have bit := congrArg (fun b : Byte => b.getLsbD k) apart
  simp only [BitVec.getLsbD_and] at bit ⊢
  cases m : mask.getLsbD k with
  | true => rw [m, Bool.and_true] at bit; simp [bit]
  | false => rw [same ⟨k, lt⟩ m]

/-! ## A group by its state -/

/-- A group's record beside whether it is clear. -/
structure GroupFits (x : TripGroup) (clear : Bool) : Prop where
  timer : x.restoreTimer.isSome ↔ x.state = .releasing
  normal : x.state = .normal → clear = true
  tripped : x.state = .tripped → x.releaseMode = .auto → clear = false
  releasing : x.state = .releasing → x.releaseMode = .auto ∧ clear = true

theorem groupsRight_iff (s : State) : GroupsRight s ↔ ∀ g, GroupFits (s.group g) (s.groupClear g) :=
  ⟨fun h g => ⟨(h g).1, (h g).2.1, (h g).2.2.1, (h g).2.2.2⟩,
    fun h g => ⟨(h g).timer, (h g).normal, (h g).tripped, (h g).releasing⟩⟩

/-- What does not hang on the sources. -/
structure GroupSound (x : TripGroup) : Prop where
  timer : x.restoreTimer.isSome ↔ x.state = .releasing
  auto : x.state = .releasing → x.releaseMode = .auto

theorem GroupFits.sound {x : TripGroup} {clear : Bool} (h : GroupFits x clear) : GroupSound x :=
  ⟨h.timer, fun r => (h.releasing r).1⟩

section groups

variable {s t : State} {g : GroupId}

theorem sharedSources_congr (faults : t.faultIns = s.faultIns) (rail : t.rail = s.rail)
    (link : t.link.linkActive = s.link.linkActive) : t.sharedSources = s.sharedSources := by
  unfold State.sharedSources State.faultIn
  rw [faults, rail, link]

@[simp] theorem setGroup_sharedSources (x : TripGroup) : (s.setGroup g x).sharedSources = s.sharedSources := rfl

theorem groupClear_congr (shared : t.sharedSources = s.sharedSources) (sources : (t.group g).sources = (s.group g).sources)
    (host : (t.group g).hostTrip = (s.group g).hostTrip) : t.groupClear g = s.groupClear g := by
  unfold State.groupClear State.activeWatched State.activeConfigured
  rw [shared, sources, host]

theorem linkActive_of_timing (h : timing t.link = timing s.link) : t.link.linkActive = s.link.linkActive :=
  congrArg (·.2.2) h

theorem sharedSources_of_outside (h : outside t = outside s) : t.sharedSources = s.sharedSources :=
  sharedSources_congr (outside_faultIns h) (outside_rail h) (linkActive_of_timing (outside_timing h))

/-! ## The moves of one group -/

/-- The state of a group moves with its restore timer, and nothing else beside the channels. -/
structure Moved (g : GroupId) (state : GroupState) (timer : Option Time) (s t : State) : Prop where
  calm : Calm (fun _ => False) (s.setGroup g { s.group g with state := state, restoreTimer := timer }) t

theorem Moved.stay : Moved g (s.group g).state (s.group g).restoreTimer s s :=
  ⟨by rw [show s.setGroup g { s.group g with state := (s.group g).state, restoreTimer := (s.group g).restoreTimer } = s
    from State.setGroup_back s g]; exact .refl⟩

theorem tripStart_moved (s : State) (g : GroupId) : Moved g .tripped none s (s.tripStart g) := by
  have reported : Calm (fun _ => False) _ _ :=
    (reportAll_reported (s.setGroup g { s.group g with state := .tripped, restoreTimer := none })
      (s.groupMembers g)).toCalm
  unfold State.tripStart
  dsimp only
  refine ⟨Calm.trans ?_ (.post _)⟩
  split
  · exact reported.trans (Acts.purgeQueues _).toCalm
  · exact reported

theorem releaseGroup_moved (s : State) (g : GroupId) (how : ReleaseHow) :
    Moved g .normal none s (s.releaseGroup g how) :=
  ⟨(Calm.post _).trans (reportAll_reported _ _).toCalm⟩

theorem backToTripped_moved (s : State) (g : GroupId) : Moved g .tripped none s (s.backToTripped g) := ⟨.refl⟩

section moved

variable {state : GroupState} {timer : Option Time}

theorem Moved.group (m : Moved g state timer s t) :
    t.group g = { s.group g with state := state, restoreTimer := timer } :=
  (outside_group m.calm.outside g).trans (State.setGroup_group_self ..)

theorem Moved.others (m : Moved g state timer s t) {j : GroupId} (ne : j ≠ g) : t.group j = s.group j :=
  (outside_group m.calm.outside j).trans ((State.setGroup_group ..).trans (if_neg ne))

theorem Moved.shared (m : Moved g state timer s t) : t.sharedSources = s.sharedSources :=
  (sharedSources_of_outside m.calm.outside).trans rfl

theorem Moved.faultIns (m : Moved g state timer s t) : t.faultIns = s.faultIns :=
  (outside_faultIns m.calm.outside).trans rfl

theorem Moved.rail (m : Moved g state timer s t) : t.rail = s.rail :=
  (outside_rail m.calm.outside).trans rfl

/-- A move changes no source, so each group is clear as before. -/
theorem Moved.clear (m : Moved g state timer s t) (j : GroupId) : t.groupClear j = s.groupClear j := by
  by_cases e : j = g
  · subst e; exact groupClear_congr m.shared (by rw [m.group]) (by rw [m.group])
  · exact groupClear_congr m.shared (by rw [m.others e]) (by rw [m.others e])

theorem Moved.fits (m : Moved g state timer s t) (clear : s.groupClear g = c)
    (h : GroupFits { s.group g with state := state, restoreTimer := timer } c) : GroupFits (t.group g) (t.groupClear g) := by
  rw [m.group, m.clear, clear]; exact h

end moved

/-- The restore timer starts, or with no delay the group is released at once (R121). -/
theorem startRestore_moved (s : State) (g : GroupId) :
    Moved g .normal none s (s.startRestore g) ∨ ∃ t, Moved g .releasing (some t) s (s.startRestore g) := by
  unfold State.startRestore
  dsimp only
  split
  · exact .inl (releaseGroup_moved s g _)
  · exact .inr ⟨_, ⟨.refl⟩⟩

/-- What an evaluation of a group does: a move after which the group fits its sources. -/
structure Evaluated (g : GroupId) (s t : State) : Prop where
  moved : ∃ state timer, Moved g state timer s t
  fits : GroupFits (t.group g) (t.groupClear g)

theorem Evaluated.startRestore (auto : (s.group g).releaseMode = .auto) (clear : s.groupClear g = true) :
    Evaluated g s (s.startRestore g) := by
  rcases startRestore_moved s g with m | ⟨t, m⟩
  · exact ⟨⟨_, _, m⟩, m.fits clear ⟨by simp, by simp, by simp, by simp⟩⟩
  · exact ⟨⟨_, _, m⟩, m.fits clear ⟨by simp, by simp, by simp, by simp [auto]⟩⟩

theorem Evaluated.tripped {t : State} (m : Moved g .tripped none s t) (clear : s.groupClear g = false) :
    Evaluated g s t :=
  ⟨⟨_, _, m⟩, m.fits clear ⟨by simp, by simp, by simp, by simp⟩⟩

theorem Evaluated.stay (h : GroupFits (s.group g) (s.groupClear g)) : Evaluated g s s := ⟨⟨_, _, .stay⟩, h⟩

theorem evalGroup_evaluated (sound : GroupSound (s.group g)) : Evaluated g s (s.evalGroup g) := by
  obtain ⟨timer, auto⟩ := sound
  unfold State.evalGroup
  dsimp only
  split
  · rename_i e
    split
    · rename_i clear; exact .stay ⟨timer, fun _ => clear, by simp [e], by simp [e]⟩
    · rename_i clear; exact .tripped (tripStart_moved s g) (by simpa using clear)
  · rename_i e
    split
    · rename_i restore; exact .startRestore restore.1 restore.2
    · rename_i stays
      exact .stay ⟨timer, by simp [e], fun _ a => by simpa [a] using stays, by simp [e]⟩
  · rename_i e
    split
    · rename_i clear; exact .stay ⟨timer, by simp [e], by simp [e], fun _ => ⟨auto e, clear⟩⟩
    · rename_i clear; exact .tripped (backToTripped_moved s g) (by simpa using clear)

/-- The evaluation under a new configuration (R127). -/
theorem reviewGroup_evaluated (timer : (s.group g).restoreTimer.isSome ↔ (s.group g).state = .releasing) :
    Evaluated g s (s.reviewGroup g) := by
  unfold State.reviewGroup
  split
  · rename_i e clear; exact .stay ⟨timer, fun _ => clear, by simp [e], by simp [e]⟩
  · rename_i e clear; exact .tripped (tripStart_moved s g) clear
  · rename_i e clear auto; exact .startRestore auto clear
  · rename_i e other
    refine .stay ⟨timer, by simp [e], fun _ auto => ?_, by simp [e]⟩
    exact Bool.eq_false_iff.mpr fun clear => other clear auto
  · rename_i e clear auto; exact .startRestore auto clear
  · rename_i e other
    have m := backToTripped_moved s g
    refine ⟨⟨_, _, m⟩, m.fits rfl ⟨by simp, by simp, fun _ auto => ?_, by simp⟩⟩
    exact Bool.eq_false_iff.mpr fun clear => other clear auto

/-- An evaluation moves the group, or leaves it. -/
theorem evalGroup_moved (s : State) (g : GroupId) : ∃ state timer, Moved g state timer s (s.evalGroup g) := by
  unfold State.evalGroup
  dsimp only
  split
  · split
    · exact ⟨_, _, .stay⟩
    · exact ⟨_, _, tripStart_moved s g⟩
  · split
    · rcases startRestore_moved s g with m | ⟨_, m⟩ <;> exact ⟨_, _, m⟩
    · exact ⟨_, _, .stay⟩
  · split
    · exact ⟨_, _, .stay⟩
    · exact ⟨_, _, backToTripped_moved s g⟩

theorem reviewGroup_moved (s : State) (g : GroupId) : ∃ state timer, Moved g state timer s (s.reviewGroup g) := by
  unfold State.reviewGroup
  split
  · exact ⟨_, _, .stay⟩
  · exact ⟨_, _, tripStart_moved s g⟩
  · rcases startRestore_moved s g with m | ⟨_, m⟩ <;> exact ⟨_, _, m⟩
  · exact ⟨_, _, .stay⟩
  · rcases startRestore_moved s g with m | ⟨_, m⟩ <;> exact ⟨_, _, m⟩
  · exact ⟨_, _, backToTripped_moved s g⟩

theorem Moved.timing {state : GroupState} {timer : Option Time} (m : Moved g state timer s t) :
    timing t.link = timing s.link :=
  (outside_timing m.calm.outside).trans rfl

/-! ## A source change -/

/-- No source change touches the link timer. -/
theorem sourceChange_timing (s : State) (mask : Byte) : timing (s.sourceChange mask).link = timing s.link := by
  have fold : ∀ (l : List GroupId) (s : State), timing
      (l.foldl (fun s g => if (s.group g).sources &&& mask = 0 then s else s.evalGroup g) s).link = timing s.link := by
    intro l
    induction l with
    | nil => intro s; rfl
    | cons g l ih =>
      intro s
      rw [List.foldl_cons, ih]
      split
      · rfl
      · obtain ⟨_, _, m⟩ := evalGroup_moved s g
        exact m.timing
  exact fold allGroups s

/-- A source change sets right every group that watches a changed source, where the others are right already. -/
theorem sourceChange_fits {mask : Byte} (sound : ∀ g, GroupSound (s.group g))
    (apart : ∀ g, (s.group g).sources &&& mask = 0 → GroupFits (s.group g) (s.groupClear g)) :
    GroupsRight (s.sourceChange mask) ∧ (s.sourceChange mask).faultIns = s.faultIns ∧
      (s.sourceChange mask).rail = s.rail := by
  have fold : ∀ (l : List GroupId) (s : State), (∀ g, GroupSound (s.group g)) →
      (∀ g, g ∉ l ∨ (s.group g).sources &&& mask = 0 → GroupFits (s.group g) (s.groupClear g)) →
      ∀ t, t = l.foldl (fun s g => if (s.group g).sources &&& mask = 0 then s else s.evalGroup g) s →
      (∀ g, GroupFits (t.group g) (t.groupClear g)) ∧ t.faultIns = s.faultIns ∧ t.rail = s.rail := by
    intro l
    induction l with
    | nil => rintro s - fits t rfl; exact ⟨fun g => fits g (.inl (by simp)), rfl, rfl⟩
    | cons g l ih =>
      intro s sound fits t e
      rw [List.foldl_cons] at e
      by_cases watches : (s.group g).sources &&& mask = 0
      · rw [if_pos watches] at e
        refine ih s sound (fun j h => fits j ?_) t e
        by_cases same : j = g
        · exact .inr (same ▸ watches)
        · exact h.imp_left fun m => by simp [same, m]
      · rw [if_neg watches] at e
        obtain ⟨⟨state, timer, m⟩, here⟩ := evalGroup_evaluated (sound g)
        have later := ih (s.evalGroup g) (fun j => ?_) (fun j h => ?_) t e
        · exact ⟨later.1, later.2.1.trans m.faultIns, later.2.2.trans m.rail⟩
        · by_cases same : j = g
          · subst same; exact here.sound
          · rw [m.others same]; exact sound j
        · by_cases same : j = g
          · subst same; exact here
          · rw [m.others same] at h ⊢
            rw [m.clear]
            exact fits j (h.imp_left fun n => by simp [same, n])
  have all : ∀ g : GroupId, g ∈ allGroups := by decide
  have done := fold allGroups s sound (fun g h => apart g (h.resolve_left fun n => n (all g))) _ rfl
  exact ⟨(groupsRight_iff _).mpr done.1, done.2⟩

/-- After a change of some sources the groups are right again once those sources' change has been taken. -/
theorem sourceChange_right {mask : Byte} (right : GroupsRight s) (groups : t.groups = s.groups)
    (same : ∀ k : Fin 8, mask.getLsbD k.val = false →
      t.sharedSources.getLsbD k.val = s.sharedSources.getLsbD k.val) :
    GroupsRight (t.sourceChange mask) ∧ (t.sourceChange mask).faultIns = t.faultIns ∧
      (t.sourceChange mask).rail = t.rail := by
  have fits := (groupsRight_iff s).mp right
  have group : ∀ g, t.group g = s.group g := fun g => by simp only [State.group, groups]
  refine sourceChange_fits (fun g => by rw [group]; exact (fits g).sound) fun g apart => ?_
  have clear : t.groupClear g = s.groupClear g := by
    unfold State.groupClear State.activeWatched State.activeConfigured
    rw [and_eq_of_apart apart same, group]
  rw [clear, group]
  exact fits g

end groups

/-! ## The invariant -/

/-- The filters and the groups right. -/
def TripKept (s : State) : Prop := FiltersRight s ∧ GroupsRight s

section kept

variable {s t : State} {g : GroupId}

theorem filtersRight_congr (faults : t.faultIns = s.faultIns) (rail : t.rail = s.rail) (h : FiltersRight s) :
    FiltersRight t := by
  unfold FiltersRight State.faultIn at h ⊢
  rw [faults, rail]
  exact h

theorem groupsRight_congr (groups : t.groups = s.groups) (shared : t.sharedSources = s.sharedSources)
    (h : GroupsRight s) : GroupsRight t := by
  have group : ∀ g, t.group g = s.group g := fun g => by simp only [State.group, groups]
  refine (groupsRight_iff t).mpr fun g => ?_
  rw [group, groupClear_congr shared (by rw [group]) (by rw [group])]
  exact (groupsRight_iff s).mp h g

theorem TripKept.congr (groups : t.groups = s.groups) (faults : t.faultIns = s.faultIns) (rail : t.rail = s.rail)
    (link : t.link.linkActive = s.link.linkActive) (p : TripKept s) : TripKept t :=
  ⟨filtersRight_congr faults rail p.1, groupsRight_congr groups (sharedSources_congr faults rail link) p.2⟩

theorem TripKept.of_outside (h : outside t = outside s) (p : TripKept s) : TripKept t :=
  p.congr (outside_groups h) (outside_faultIns h) (outside_rail h) (linkActive_of_timing (outside_timing h))

/-- One group is evaluated, the others being right. -/
theorem TripKept.evaluated {u : State} (filters : FiltersRight s) (others : ∀ j, j ≠ g → GroupFits (s.group j) (s.groupClear j))
    (e : Evaluated g s u) : TripKept u := by
  obtain ⟨⟨state, timer, m⟩, here⟩ := e
  refine ⟨filtersRight_congr m.faultIns m.rail filters, (groupsRight_iff u).mpr fun j => ?_⟩
  by_cases same : j = g
  · subst same; exact here
  · rw [m.others same, m.clear]; exact others j same

/-- A group's record changes: the other groups stay right. -/
theorem others_fit {x : TripGroup} (right : GroupsRight s) (j : GroupId) (ne : j ≠ g) :
    GroupFits ((s.setGroup g x).group j) ((s.setGroup g x).groupClear j) := by
  have same : (s.setGroup g x).group j = s.group j := (State.setGroup_group ..).trans (if_neg ne)
  have clear : (s.setGroup g x).groupClear j = s.groupClear j := groupClear_congr rfl (by rw [same]) (by rw [same])
  rw [same, clear]
  exact (groupsRight_iff s).mp right j

theorem takeCommit_outside (s : State) (c : CommitCause) :
    (s.takeCommit c).groups = s.groups ∧ (s.takeCommit c).faultIns = s.faultIns ∧ (s.takeCommit c).rail = s.rail ∧
      (s.takeCommit c).link.linkActive = s.link.linkActive := by
  have posted := post_outside { s with cam := { s.cam with active := s.cam.shadow, commitPending := false } }
    (.camCommitted c s.tracker.cycle (CamTable.count s.cam.shadow))
  exact ⟨(outside_groups posted).trans rfl, (outside_faultIns posted).trans rfl, (outside_rail posted).trans rfl,
    (linkActive_of_timing (outside_timing posted)).trans rfl⟩

theorem tripKept_turns : KeptByTurns TripKept where
  tracker s _ _ p := TripKept.congr (s := s) rfl rfl rfl rfl p
  acts _ _ _ _ a p := p.of_outside a.outside
  commit s c p :=
    have ⟨groups, faults, rail, link⟩ := takeCommit_outside s c
    p.congr groups faults rail link

theorem TripKept.changeMode (m : Mode) (p : TripKept s) : TripKept (s.changeMode m) := by
  have reported : TripKept (State.reportAll { s with mode := m } allOutputs) :=
    TripKept.of_outside (reportAll_reported _ _).outside (p.congr rfl rfl rfl rfl)
  unfold State.changeMode State.camModeReport
  split
  · exact reported
  · exact tripKept_turns.takePending _ (reported.congr rfl rfl rfl rfl)

/-! ### Fault inputs, the rail and LINK -/

/-- Only one fault input's source may have changed. -/
theorem shared_setFaultIn {i : InputId} {f : FaultIn} {k : Fin 8} (other : (inputMask i).getLsbD k.val = false) :
    (s.setFaultIn i f).sharedSources.getLsbD k.val = s.sharedSources.getLsbD k.val := by
  have ne : ∀ j : InputId, k.val = j.val → j ≠ i := fun j e same => by
    rw [inputMask_bit] at other
    simp [e, same] at other
  have input : ∀ j : InputId, k.val = j.val → (s.setFaultIn i f).faultIn j = s.faultIn j := fun j e =>
    rd_wr_ne _ _ (ne j e).symm
  unfold State.sharedSources
  rw [sourceMask_bit, sourceMask_bit]
  fin_cases k
  · exact congrArg FaultIn.active (input 0 rfl)
  · exact congrArg FaultIn.active (input 1 rfl)
  · exact congrArg FaultIn.active (input 2 rfl)
  · exact congrArg FaultIn.active (input 3 rfl)
  all_goals rfl

/-- A fault input whose source is as it was. -/
theorem shared_setFaultIn_same {i : InputId} {f : FaultIn} (same : f.active = (s.faultIn i).active) :
    (s.setFaultIn i f).sharedSources = s.sharedSources := by
  have active : ∀ j, ((s.setFaultIn i f).faultIn j).active = (s.faultIn j).active := fun j => by
    rw [State.setFaultIn_faultIn]
    split
    · rename_i e; rw [e, same]
    · rfl
  unfold State.sharedSources
  rw [active, active, active, active]
  rfl

/-- A fault input's record is written with its run below its depth, and the change of its source, if any, is taken. -/
theorem TripKept.setFaultIn {i : InputId} {f : FaultIn} (depth : f.run < f.depth) (p : TripKept s) :
    (f.active = (s.faultIn i).active → TripKept (s.setFaultIn i f)) ∧
      TripKept ((s.setFaultIn i f).sourceChange (inputMask i)) := by
  have filters : FiltersRight (s.setFaultIn i f) := by
    obtain ⟨inputs, rail⟩ := p.1
    refine ⟨fun j => ?_, rail⟩
    rw [State.setFaultIn_faultIn]
    split
    · exact ⟨Nat.one_le_of_lt depth, depth⟩
    · exact inputs j
  obtain ⟨right, faults, rail⟩ := sourceChange_right (t := s.setFaultIn i f) (mask := inputMask i) p.2 rfl
    fun k other => shared_setFaultIn other
  exact ⟨fun same => ⟨filters, groupsRight_congr (s := s) rfl (shared_setFaultIn_same same) p.2⟩,
    filtersRight_congr faults rail filters, right⟩

/-- A sample keeps the run below the depth (R110). -/
theorem sample_run {f : FaultIn} (level : Level) (depth : 1 ≤ f.depth) :
    (f.sample level).run < (f.sample level).depth := by
  unfold FaultIn.sample
  split
  · exact depth
  · split
    · assumption
    · exact depth

theorem TripKept.faultSample (i : InputId) (level : Level) (p : TripKept s) : TripKept (s.faultSample i level) := by
  have pin : TripKept { s with pins := { s.pins with faults := wr s.pins.faults i level } } :=
    p.congr rfl rfl rfl rfl
  have written := pin.setFaultIn (i := i)
    (f := { (s.faultIn i).sample level with nextSample := after (s.faultIn i).nextSample (s.faultIn i).period })
    (sample_run level (p.1.1 i).1)
  unfold State.faultSample
  dsimp only
  split
  · split
    · rename_i same; exact written.1 same
    · exact written.2
  · exact pin

/-- Only the rail's sources that changed differ. -/
theorem shared_rail {m : RailMonitor} {k : Fin 8} (other : (railMask s.rail m).getLsbD k.val = false) :
    (State.sharedSources { s with rail := m }).getLsbD k.val = s.sharedSources.getLsbD k.val := by
  unfold railMask at other
  unfold State.sharedSources
  rw [sourceMask_bit] at other ⊢
  rw [sourceMask_bit]
  fin_cases k
  on_goal 7 => exact (by simpa using other : s.rail.highActive = m.highActive).symm
  on_goal 6 => exact (by simpa using other : s.rail.lowActive = m.lowActive).symm
  all_goals rfl

/-- The rail monitor's record is written with its runs below its depth. -/
theorem TripKept.setRailMonitor {m : RailMonitor}
    (right : 1 ≤ m.depth ∧ m.lowRun < m.depth ∧ m.highRun < m.depth ∧ m.lastSample ≤ 600) (p : TripKept s) :
    TripKept (s.setRailMonitor m) := by
  have filters : FiltersRight { s with rail := m } := ⟨p.1.1, right⟩
  unfold State.setRailMonitor
  dsimp only
  split
  · rename_i none
    refine ⟨filters, groupsRight_congr (s := s) rfl ?_ p.2⟩
    refine BitVec.eq_of_getLsbD_eq fun k lt => shared_rail (s := s) (k := ⟨k, lt⟩) ?_
    rw [none]; exact BitVec.getLsbD_zero
  · obtain ⟨groups, faults, rail⟩ := sourceChange_right (t := { s with rail := m }) (mask := railMask s.rail m) p.2 rfl
      fun k other => shared_rail other
    exact ⟨filtersRight_congr faults rail filters, groups⟩

theorem railSource_run {active adds : Bool} {run depth : Nat} (h : 1 ≤ depth) :
    (railSource active run depth adds).2 < depth := by
  unfold railSource
  split
  · split
    · assumption
    · exact h
  · exact h

theorem TripKept.railSample (v : Int) (p : TripKept s) : TripKept (s.railSample v) := by
  have pin : TripKept { s with pins := { s.pins with rail := v } } := p.congr rfl rfl rfl rfl
  unfold State.railSample
  dsimp only
  split
  · refine pin.setRailMonitor ?_
    have depth := p.1.2.1
    exact ⟨depth, railSource_run depth, railSource_run depth, Nat.min_le_right ..⟩
  · exact pin

/-- Only LINK may have changed. -/
theorem TripKept.setLinkActive (a : Bool) (p : TripKept s) : TripKept (s.setLinkActive a) := by
  unfold State.setLinkActive
  split
  · exact p
  · obtain ⟨groups, faults, rail⟩ := sourceChange_right
      (t := { s with link := { s.link with linkActive := a } }) (mask := linkMask) p.2 rfl fun k other => by
        rw [linkMask_bit] at other
        unfold State.sharedSources
        rw [sourceMask_bit, sourceMask_bit]
        fin_cases k
        on_goal 5 => simp at other
        all_goals rfl
    exact ⟨filtersRight_congr (t := State.sourceChange _ _) faults rail p.1, groups⟩

/-! ### Orders -/

theorem TripKept.hostTrip (g : GroupId) (p : TripKept s) : TripKept (s.hostTrip g) := by
  unfold State.hostTrip
  split
  · exact p
  · have fits := (groupsRight_iff s).mp p.2 g
    refine TripKept.evaluated (s := s.setGroup g _) p.1 (others_fit p.2) (evalGroup_evaluated ?_)
    rw [State.setGroup_group_self]
    exact ⟨fits.timer, fun r => (fits.releasing r).1⟩

theorem TripKept.ownTrip (m : BitVec 4) (p : TripKept s) : TripKept (ownTrip m s).state := by
  have fold : ∀ (l : List GroupId) (s : State), TripKept s →
      TripKept (l.foldl (fun s g => if m.getLsbD g.val then s.hostTrip g else s) s) := by
    intro l
    induction l with
    | nil => intro s p; exact p
    | cons g l ih =>
      intro s p
      rw [List.foldl_cons]
      refine ih _ ?_
      split
      · exact p.hostTrip g
      · exact p
  exact fold allGroups s p

theorem TripKept.ownSetTgroup (f : TgroupFields) (p : TripKept s) : TripKept (ownSetTgroup f s).state := by
  unfold Machine.ownSetTgroup
  split
  · exact p
  · refine TripKept.evaluated (s := s.setGroup f.group _) p.1 (others_fit p.2) (reviewGroup_evaluated ?_)
    rw [State.setGroup_group_self]
    exact ((groupsRight_iff s).mp p.2 f.group).timer

theorem TripKept.releaseOrder (clear : (s.group g).releaseMode = .manual → s.activeConfigured g = 0) (p : TripKept s) :
    TripKept (s.releaseOrder g) := by
  have fits := (groupsRight_iff s).mp p.2 g
  unfold State.releaseOrder
  dsimp only
  split
  · rename_i manual
    have m := releaseGroup_moved (s.setGroup g { s.group g with hostTrip := false }) g .order
    refine TripKept.evaluated (s := s.setGroup g _) p.1 (others_fit p.2) ⟨⟨_, _, m⟩, m.fits (c := true) ?_ ?_⟩
    · unfold State.groupClear State.activeWatched State.activeConfigured
      rw [State.setGroup_group_self]
      have configured : (s.group g).sources &&& s.sharedSources = 0 := clear manual
      simpa using configured
    · exact ⟨by simp, by simp, by simp, by simp⟩
  · split
    · refine TripKept.evaluated (s := s.setGroup g _) p.1 (others_fit p.2) (evalGroup_evaluated ?_)
      rw [State.setGroup_group_self]
      exact ⟨fits.timer, fun r => (fits.releasing r).1⟩
    · rename_i unset
      simp only [Bool.not_eq_true] at unset
      have same : s.setGroup g { s.group g with hostTrip := false } = s := by
        rw [← unset]; exact State.setGroup_back s g
      rw [same]
      exact p

theorem TripKept.ownRelease (g : GroupId) (p : TripKept s) : TripKept (ownRelease g s).state := by
  unfold Machine.ownRelease
  split
  · exact p
  · split
    · exact p
    · rename_i h
      exact p.releaseOrder fun manual => not_not.mp fun ne => h ⟨manual, ne⟩

theorem TripKept.restoreExpiry (g : GroupId) (p : TripKept s) : TripKept (s.restoreExpiry g) := by
  unfold State.restoreExpiry
  dsimp only
  split
  · rename_i h
    have fits := (groupsRight_iff s).mp p.2
    have m := releaseGroup_moved s g .restored
    exact TripKept.evaluated p.1 (fun j _ => fits j)
      ⟨⟨_, _, m⟩, m.fits ((fits g).releasing h.2).2 ⟨by simp, by simp, by simp, by simp⟩⟩
  · exact p

theorem inactive_other (f : FaultIn) (h : f.filtered = f.activeLevel.other) : f.active = false := by
  cases l : f.activeLevel <;> simp [FaultIn.active, h, l, Level.other]

/-- The depth of a filter that the decoder lets through (R112, R115). -/
theorem decodeSetFaultin_depth {body : List Byte} {f : FaultinFields} (h : decodeSetFaultin body = .ok f) :
    1 ≤ f.depth := by
  unfold decodeSetFaultin at h
  split at h
  · rename_i i l p d
    cases a : inputOf i with
    | none => simp [fieldOr, a] at h
    | some input =>
      cases b : Level.ofByte l with
      | none => simp [fieldOr, a, b] at h
      | some level =>
        simp only [fieldOr, a, b, Option.bind_eq_bind, Option.bind_some] at h
        split at h
        · rename_i e
          split at e
          · rename_i bounds
            cases e; cases h
            exact bounds.2
          · cases e
        · cases h
  · cases h

theorem decodeSetRail_depth {body : List Byte} {f : RailFields} (h : decodeSetRail body = .ok f) : 1 ≤ f.depth := by
  unfold decodeSetRail at h
  split at h
  · dsimp only at h
    split at h
    · rename_i bounds
      cases h
      exact bounds.2.2.2
    · cases h
  · cases h

theorem TripKept.ownSetFaultin {f : FaultinFields} (depth : 1 ≤ f.depth) (p : TripKept s) :
    TripKept (ownSetFaultin f s).state := by
  unfold Machine.ownSetFaultin
  dsimp only
  split
  · exact p
  · have written := p.setFaultIn (i := f.input)
      (f := { activeLevel := f.activeLevel, period := f.period, depth := f.depth, filtered := f.activeLevel.other,
              run := 0, nextSample := after s.now f.period }) depth
    dsimp only
    split
    · exact written.2
    · rename_i inactive
      exact written.1 ((inactive_other _ rfl).trans (Bool.eq_false_iff.mpr inactive).symm)

theorem TripKept.ownSetRail {f : RailFields} (depth : 1 ≤ f.depth) (p : TripKept s) :
    TripKept (ownSetRail f s).state := by
  obtain ⟨-, -, -, -, last⟩ := p.1
  unfold Machine.ownSetRail
  split
  · exact p
  · split
    · exact p
    · exact p.setRailMonitor ⟨depth, depth, depth, last⟩

theorem tripKept : Kept TripKept where
  plumbed s t h p := by
    refine p.congr ?_ ?_ ?_ (linkActive_of_timing h.timing) <;> rw [h.rest]
  reset s cause baud := by
    have inputs : ∀ i, (s.afterReset cause baud).faultIn i = FaultIn.afterReset := fun i => rd_replicate ..
    have groups : ∀ g, (s.afterReset cause baud).group g = TripGroup.afterReset := fun g => rd_replicate ..
    refine ⟨⟨fun i => by rw [inputs]; decide, by simp [State.afterReset, RailMonitor.afterReset]⟩,
      (groupsRight_iff _).mpr fun g => ?_⟩
    have clear : (s.afterReset cause baud).groupClear g = true := by
      simp [State.groupClear, State.activeWatched, State.activeConfigured, groups, TripGroup.afterReset]
    rw [groups, clear]
    exact ⟨by simp [TripGroup.afterReset], fun _ => rfl, by simp [TripGroup.afterReset], by simp [TripGroup.afterReset]⟩
  advance s p := TripKept.congr (s := s) rfl rfl rfl rfl p
  acts _ _ _ a p := p.of_outside a.outside
  policy s _ p := TripKept.congr (s := s) rfl rfl rfl rfl p
  setIset f s p := by
    unfold ownSetIset
    split
    · exact p
    · exact TripKept.congr (s := s) rfl rfl rfl rfl p
  setProfile f s p := by
    unfold ownSetProfile
    dsimp only
    repeat' split
    all_goals exact TripKept.congr (s := s) rfl rfl rfl rfl p
  start s p := by
    unfold ownStart
    split
    · exact p
    · exact p.changeMode _
  stop s p := by
    unfold ownStop
    split
    · exact p
    · exact (p.changeMode _).of_outside (Acts.purgeQueues (W := fun _ => False) _).outside
  pause s p := by
    unfold ownPause
    split
    · exact p
    · exact p.changeMode _
  resume s p := by
    unfold ownResume
    split
    · exact p
    · exact p.changeMode _
  setAngle f s p := by
    have configured : TripKept (s.setTracker (s.tracker.configured f)) :=
      TripKept.congr (s := s) rfl rfl rfl rfl p
    rcases ownSetAngle_cases f s with e | ⟨-, e | ⟨-, e⟩⟩ <;> rw [e]
    · exact p
    · exact configured
    · exact tripKept_turns.trackerTo_of _ configured
  setCycle _ s p := TripKept.congr (s := s) rfl rfl rfl rfl p
  pulse _ := tripKept_turns.pulse
  index _ := tripKept_turns.index
  stall _ := tripKept_turns.stall
  camPut _ w s _ p := by
    unfold ownCamPut
    dsimp only
    repeat' split
    all_goals exact TripKept.congr (s := s) rfl rfl rfl rfl p
  camDrop b s p := by
    unfold ownCamDrop
    repeat' split
    all_goals exact TripKept.congr (s := s) rfl rfl rfl rfl p
  camClear s p := by
    unfold ownCamClear
    split <;> exact TripKept.congr (s := s) rfl rfl rfl rfl p
  camCopy s p := by
    unfold ownCamCopy
    split <;> exact TripKept.congr (s := s) rfl rfl rfl rfl p
  camCommit s p := by
    unfold ownCamCommit
    dsimp only
    split
    · exact p
    · split
      · exact TripKept.congr (s := s) rfl rfl rfl rfl p
      · exact tripKept_turns.commit s _ p
  camAbort s p := by
    unfold ownCamAbort
    split <;> exact TripKept.congr (s := s) rfl rfl rfl rfl p
  setLink f s p := by
    have timed : ∀ timer, TripKept { s with link := { s.link with timeout := f.2, timer := timer } } := fun _ =>
      TripKept.congr (s := s) rfl rfl rfl rfl p
    unfold ownSetLink
    dsimp only
    split
    · exact (timed _).setLinkActive _
    · exact timed _
  touchLink s p := by
    unfold State.touchLink
    split
    · exact p
    · exact TripKept.setLinkActive _ (TripKept.congr (s := s) rfl rfl rfl rfl p)
  linkExpiry s p := by
    unfold State.linkExpiry
    split
    · exact TripKept.setLinkActive _ (TripKept.congr (s := s) rfl rfl rfl rfl p)
    · exact p
  setFaultin _ _ _ d p := p.ownSetFaultin (decodeSetFaultin_depth d)
  setRail _ _ _ d p := p.ownSetRail (decodeSetRail_depth d)
  setTgroup f _ p := p.ownSetTgroup f
  trip m _ p := p.ownTrip m
  release g _ p := p.ownRelease g
  faultSample i l _ p := p.faultSample i l
  railSample v _ p := p.railSample v
  restoreExpiry g _ p := p.restoreExpiry g

end kept

/-- Settles O59: an evaluation sets a group right, and every change of a source reaches the groups that watch it. -/
theorem tripUnitKept : Obligations.TripUnitKept := by
  intro s t right h
  exact (tripKept.step h right : TripKept t)

end Sys2Proof.Laws.Trips
end

section
/-! SUPPORT. The Shot Scheduler's invariant: the bounds of the pool and of the queues, and where entries may stand. -/

namespace Sys2Proof.Laws.Shots

open Sys2Proof Sys2Proof.Machine Sys2Proof.Laws.Drive Sys2Proof.Laws.Invariants

/-! ## The use of the pool -/

theorem sum_map_change {α : Type} [DecidableEq α] {l : List α} {a : α} {f g : α → Nat} (once : l.Nodup) (mem : a ∈ l)
    (same : ∀ b, b ≠ a → f b = g b) : (l.map f).sum + g a = (l.map g).sum + f a := by
  induction l with
  | nil => simp at mem
  | cons b l ih =>
    obtain ⟨notIn, once⟩ := List.nodup_cons.mp once
    simp only [List.map_cons, List.sum_cons]
    by_cases e : b = a
    · subst e
      have rest : l.map f = l.map g := List.map_congr_left fun c m => same c fun e => notIn (e ▸ m)
      rw [rest]; omega
    · have := ih once ((List.mem_cons.mp mem).resolve_left (Ne.symm e))
      rw [same b e]; omega

theorem mem_allOutputs (o : Output) : o ∈ allOutputs := by revert o; decide

/-- A queue written changes the use of the pool by its own length. -/
theorem poolUse_setQueue (s : State) (o : Output) (q : List Entry) :
    (s.setQueue o q).poolUse + (s.queue o).length = s.poolUse + q.length := by
  have change := sum_map_change (f := fun p => ((s.setQueue o q).queue p).length)
    (g := fun p => (s.queue p).length) (by decide : allOutputs.Nodup) (mem_allOutputs o)
    fun p ne => by rw [State.setQueue_queue, if_neg ne]
  simpa [State.poolUse] using change

theorem poolUse_empty {s : State} (h : ∀ o, s.queue o = []) : s.poolUse = 0 := by
  simp [State.poolUse, h]

/-! ## The invariant -/

/-- The bounds, only heads served, and entries only where they may be. -/
def QueuesKept (s : State) : Prop := PoolBounds s ∧ OnlyHeadServed s ∧ QueuesPlaced s

section kept

variable {s t : State}

theorem QueuesKept.congr (queues : t.queues = s.queues) (mode : s.mode ≠ .idle → t.mode ≠ .idle)
    (profiles : t.profiles = s.profiles) (p : QueuesKept s) : QueuesKept t := by
  have queue : ∀ o, t.queue o = s.queue o := fun o => by simp only [State.queue, queues]
  obtain ⟨⟨pool, bound⟩, head, placed⟩ := p
  refine ⟨⟨?_, fun o => ?_⟩, fun o => ?_, fun o some => ?_⟩
  · simpa only [State.poolUse, queue] using pool
  · rw [queue]; exact bound o
  · rw [queue]; exact head o
  · rw [queue] at some
    rw [profile_of_profiles profiles]
    exact ⟨mode (placed o some).1, (placed o some).2⟩

/-- Empty queues break nothing. -/
theorem queuesKept_empty (h : ∀ o, t.queue o = []) : QueuesKept t :=
  ⟨⟨by rw [poolUse_empty h]; exact Nat.zero_le _, fun o => by simp [h]⟩, fun o => by rw [h]; simp [tailUnserved], fun o some =>
    absurd (h o) some⟩

theorem queues_empty_of_idle (idle : s.mode = .idle) (p : QueuesKept s) (o : Output) : s.queue o = [] := by
  by_contra some
  exact (p.2.2 o some).1 idle

/-- A queue that does not grow, or grows by one where there is room and entries may stand. -/
theorem QueuesKept.setQueue {o : Output} {q : List Entry} (p : QueuesKept s)
    (pool : q.length ≤ (s.queue o).length ∨ q.length = (s.queue o).length + 1 ∧ s.poolUse < Config.poolEntries ∧
      (s.queue o).length < Config.queueEntries)
    (head : tailUnserved (s.queue o) → tailUnserved q)
    (placed : q ≠ [] → s.mode ≠ .idle ∧ (s.profile o).source = .shot) : QueuesKept (s.setQueue o q) := by
  obtain ⟨⟨use, bound⟩, heads, places⟩ := p
  have change := poolUse_setQueue s o q
  refine ⟨⟨by omega, fun j => ?_⟩, fun j => ?_, fun j some => ?_⟩
  · rw [State.setQueue_queue]
    split
    · have := bound o; omega
    · exact bound j
  · rw [State.setQueue_queue]
    split
    · exact head (heads o)
    · exact heads j
  · rw [State.setQueue_queue] at some
    split at some
    · rename_i e; subst e; exact placed some
    · exact places j some

theorem QueuesKept.inner (h : Inner s t) (p : QueuesKept s) : QueuesKept t := by
  cases h with
  | shrink o q le head =>
    refine p.setQueue (.inl le) head fun some => p.2.2 o fun empty => some ?_
    rw [empty, List.length_nil] at le
    exact List.eq_nil_of_length_eq_zero (Nat.le_zero.mp le)
  | grow o q length pool room head mode source =>
    exact p.setQueue (.inr ⟨length, pool, room⟩) head fun _ => ⟨mode, source⟩
  | post b => refine p.congr ?_ ?_ ?_ <;> rw [post_frame]; exact id
  | reply r => refine p.congr ?_ ?_ ?_ <;> rw [placeReply_frame]; exact id
  | cached f b => refine p.congr ?_ ?_ ?_ <;> rw [cacheOrder_frame]; exact id
  | _ => exact p.congr rfl id rfl

theorem QueuesKept.inners (h : Inners s t) (p : QueuesKept s) : QueuesKept t :=
  h.keeps (fun _ _ m p => p.inner m) p

theorem queuesKept_turns : KeptByTurns QueuesKept where
  tracker s _ _ p := QueuesKept.congr (s := s) rfl id rfl p
  acts _ _ _ m _ p := p.inners m
  commit _ _ p := p.inners (takeCommit_inners ..)

/-- A change to a mode other than IDLE. -/
theorem QueuesKept.changeMode {m : Mode} (on : m ≠ .idle) (p : QueuesKept s) : QueuesKept (s.changeMode m) :=
  ((QueuesKept.congr (s := s) (t := { s with mode := m }) rfl (fun _ => on) rfl p).inners
    (reportAll_inners ..)).inners (camModeReport_inners _)

theorem purgeQueues_queue (os : List Output) (s : State) (o : Output) :
    (s.purgeQueues os).2.queue o = if o ∈ os then [] else s.queue o := by
  have fold : ∀ (os : List Output) (n : Nat) (s : State),
      (os.foldl (fun r o => ((r.1 + (r.2.purgeQueue o).1), (r.2.purgeQueue o).2)) (n, s)).2.queue o =
        if o ∈ os then [] else s.queue o := by
    intro os
    induction os with
    | nil => intro n s; simp
    | cons p os ih =>
      intro n s
      rw [List.foldl_cons, ih]
      simp only [State.purgeQueue, State.setQueue_queue, List.mem_cons]
      by_cases later : o ∈ os <;> by_cases now : o = p <;> simp [later, now]
  exact fold os 0 s

theorem QueuesKept.setRailMonitor (m : RailMonitor) (p : QueuesKept s) : QueuesKept (s.setRailMonitor m) := by
  have rail : QueuesKept { s with rail := m } := QueuesKept.congr (s := s) rfl id rfl p
  unfold State.setRailMonitor
  dsimp only
  split
  · exact rail
  · exact rail.inners (sourceChange_inners ..)

theorem queuesKept : Kept QueuesKept where
  plumbed s t h p := by
    refine p.congr ?_ ?_ ?_ <;> rw [h.rest]; exact id
  reset s cause baud := queuesKept_empty (t := s.afterReset cause baud) fun o => rd_replicate ..
  advance s p := QueuesKept.congr (s := s) rfl id rfl p
  acts _ _ m _ p := p.inners m
  policy s _ p := QueuesKept.congr (s := s) rfl id rfl p
  setIset f s p := p.inners (ownSetIset_inners f s)
  setProfile f s p := by
    unfold ownSetProfile
    dsimp only
    split
    · exact p
    · rename_i idle
      have empty := queues_empty_of_idle (not_not.mp idle) p
      split
      · exact p
      · split
        · exact p
        · exact queuesKept_empty empty
  start s p := by
    unfold ownStart
    split
    · exact p
    · exact p.changeMode (by simp)
  stop s p := by
    unfold ownStop
    split
    · exact p
    · refine queuesKept_empty fun o => ?_
      dsimp only
      rw [purgeQueues_queue, if_pos (mem_allOutputs o)]
  pause s p := by
    unfold ownPause
    split
    · exact p
    · exact p.changeMode (by simp)
  resume s p := by
    unfold ownResume
    split
    · exact p
    · exact p.changeMode (by simp)
  setAngle f s p := by
    have configured : QueuesKept (s.setTracker (s.tracker.configured f)) := QueuesKept.congr (s := s) rfl id rfl p
    rcases ownSetAngle_cases f s with e | ⟨-, e | ⟨-, e⟩⟩ <;> rw [e]
    · exact p
    · exact configured
    · exact queuesKept_turns.trackerTo_of _ configured
  setCycle _ s p := QueuesKept.congr (s := s) rfl id rfl p
  pulse _ := queuesKept_turns.pulse
  index _ := queuesKept_turns.index
  stall _ := queuesKept_turns.stall
  camPut _ w s _ p := p.inners (ownCamPut_inners w s)
  camDrop b s p := p.inners (ownCamDrop_inners b s)
  camClear s p := p.inners (ownCamClear_inners () s)
  camCopy s p := p.inners (ownCamCopy_inners () s)
  camCommit s p := p.inners (ownCamCommit_inners () s)
  camAbort s p := p.inners (ownCamAbort_inners () s)
  setLink f s p := p.inners (ownSetLink_inners f s)
  touchLink s p := p.inners (touchLink_inners s)
  linkExpiry s p := p.inners (linkExpiry_inners s)
  setFaultin _ f s _ p := by
    have written : ∀ x, QueuesKept (s.setFaultIn f.input x) := fun _ => QueuesKept.congr (s := s) rfl id rfl p
    unfold ownSetFaultin
    dsimp only
    split
    · exact p
    · dsimp only
      split
      · exact (written _).inners (sourceChange_inners ..)
      · exact written _
  setRail _ f s _ p := by
    unfold ownSetRail
    split
    · exact p
    · split
      · exact p
      · exact p.setRailMonitor _
  setTgroup f s p := p.inners (ownSetTgroup_inners f s)
  trip m s p := p.inners (ownTrip_inners m s)
  release g s p := p.inners (ownRelease_inners g s)
  faultSample i l s p := by
    have pin : QueuesKept { s with pins := { s.pins with faults := wr s.pins.faults i l } } :=
      QueuesKept.congr (s := s) rfl id rfl p
    have written : ∀ x, QueuesKept (State.setFaultIn { s with pins := { s.pins with faults := wr s.pins.faults i l } } i x) :=
      fun _ => QueuesKept.congr (s := s) rfl id rfl p
    unfold State.faultSample
    dsimp only
    split
    · split
      · exact written _
      · exact (written _).inners (sourceChange_inners ..)
    · exact pin
  railSample v s p := by
    have pin : QueuesKept { s with pins := { s.pins with rail := v } } := QueuesKept.congr (s := s) rfl id rfl p
    unfold State.railSample
    dsimp only
    split
    · exact pin.setRailMonitor _
    · exact pin
  restoreExpiry g s p := p.inners (restoreExpiry_inners s g)

end kept

/-- Settles O52: a queue grows by the entry admitted alone, and modes and profiles change where no entry stands. -/
theorem shotQueuesKept : Obligations.ShotQueuesKept := by
  intro s t right h
  exact (queuesKept.step h right : QueuesKept t)

end Sys2Proof.Laws.Shots
end

section
/-! SUPPORT. The link's invariant: the bounds of its queues and of the notices, the idle transmitter, the orders taken, and
the link timer. -/

namespace Sys2Proof.Laws.LinkBounds

open Sys2Proof Sys2Proof.Machine Sys2Proof.Laws.Drive Sys2Proof.Laws.Invariants Sys2Proof.Laws.Trips

/-! ## Bounds, through every move -/

/-- The bounds, and the transmitter idle only while nothing waits. -/
def Bounded (s : State) : Prop := Machine.LinkBounds s ∧ NothingHeldBack s

section bounds

variable {s t : State}

/-- The arbiter leaves nothing held back. -/
theorem pump_nothingHeldBack (s : State) : NothingHeldBack s.pump := by
  unfold State.pump
  split
  · rename_i busy; intro idle; simp [idle] at busy
  · unfold State.choose
    split
    · simp [NothingHeldBack, State.beginReply, State.beginFrame]
    · split
      · simp [NothingHeldBack, State.beginReply, State.beginFrame]
      · simp [NothingHeldBack, State.beginNotice, State.beginFrame]
    · simp [NothingHeldBack, State.beginNotice, State.beginFrame]
    · rename_i replies notices; exact fun _ => ⟨replies, notices⟩

/-- The arbiter takes from the queues alone, and counts the streak up to its limit. -/
theorem pump_linkBounds (h : Machine.LinkBounds s) : Machine.LinkBounds s.pump := by
  obtain ⟨inbox, replies, cache, notices, streak⟩ := h
  unfold State.pump
  split
  · exact ⟨inbox, replies, cache, notices, streak⟩
  · unfold State.choose
    split
    · rename_i e _
      rw [e] at replies
      exact ⟨inbox, Nat.le_of_succ_le replies, cache, notices, Nat.zero_le _⟩
    · rename_i er en
      split
      · rename_i below
        rw [er] at replies
        exact ⟨inbox, Nat.le_of_succ_le replies, cache, notices, below⟩
      · rw [en] at notices
        exact ⟨inbox, replies, cache, Nat.le_of_succ_le notices, Nat.zero_le _⟩
    · rename_i en
      rw [en] at notices
      exact ⟨inbox, replies, cache, Nat.le_of_succ_le notices, Nat.zero_le _⟩
    · exact ⟨inbox, replies, cache, notices, streak⟩

theorem pump_bounded (h : Machine.LinkBounds s) : Bounded s.pump := ⟨pump_linkBounds h, pump_nothingHeldBack s⟩

theorem Bounded.post (b : NoticeBody) (h : Bounded s) : Bounded (s.post b) := by
  obtain ⟨⟨inbox, replies, cache, notices, streak⟩, -⟩ := h
  refine pump_bounded ⟨inbox, replies, cache, ?_, streak⟩
  dsimp only
  split
  · rename_i room; simpa using room
  · exact notices

theorem Bounded.placeReply (r : Reply) (h : Bounded s) : Bounded (s.placeReply r) := by
  unfold State.placeReply
  split
  · rename_i room
    obtain ⟨⟨inbox, -, cache, notices, streak⟩, -⟩ := h
    exact pump_bounded ⟨inbox, by simpa using room, cache, notices, streak⟩
  · exact h

theorem Bounded.cacheOrder (f : OrderFrame) (b : ReplyBody) (h : Bounded s) : Bounded (s.cacheOrder f b) := by
  unfold State.cacheOrder
  split
  · exact h
  · obtain ⟨⟨inbox, replies, cache, notices, streak⟩, nothing⟩ := h
    refine ⟨⟨inbox, replies, ?_, notices, streak⟩, nothing⟩
    dsimp only
    split
    · rename_i room; simpa using room
    · rename_i full
      simp only [Config.cacheEntries] at full cache ⊢
      simp only [List.length_append, List.length_tail, List.length_singleton]
      omega

theorem Bounded.own (m : Own s t) (h : Bounded s) : Bounded t := by
  cases m with
  | inner t m =>
    cases m with
    | post b => exact h.post b
    | reply r => exact h.placeReply r
    | cached f b => exact h.cacheOrder f b
    | _ => exact h
  | _ => exact h

theorem Bounded.move (m : Move s t) (h : Bounded s) : Bounded t := by
  obtain ⟨⟨inbox, replies, cache, notices, streak⟩, nothing⟩ := id h
  cases m with
  | own t m => exact h.own m
  | left f =>
    unfold State.leaveInbox
    split
    · refine ⟨⟨?_, replies, cache, notices, streak⟩, nothing⟩
      exact (by simp : s.link.inbox.tail.length ≤ s.link.inbox.length).trans inbox
    · exact h
  | admitted f room => exact ⟨⟨by simpa using room, replies, cache, notices, streak⟩, nothing⟩
  | framer _ _ => exact h
  | pins _ => exact h
  | sent _ _ _ => exact pump_bounded ⟨inbox, replies, cache, notices, streak⟩
  | held =>
    exact ⟨⟨Nat.zero_le _, Nat.zero_le _, Nat.zero_le _, Nat.zero_le _, Nat.zero_le _⟩, fun _ => ⟨rfl, rfl⟩⟩
  | ended _ _ =>
    exact pump_bounded
      ⟨Nat.zero_le _, Nat.zero_le _, Nat.zero_le _, (by decide : 1 ≤ Config.noticePlaces), Nat.zero_le _⟩

theorem Bounded.moves (m : Moves s t) (h : Bounded s) : Bounded t := m.keeps (fun _ _ m h => h.move m) h

end bounds

/-! ## The decoder's readiness through an owner's moves -/

section ready

variable {s t : State}

theorem pump_halted (s : State) : s.pump.link.halted = s.link.halted := by
  unfold State.pump State.choose
  split
  · rfl
  · split
    · rfl
    · split <;> rfl
    · rfl
    · rfl

/-- Where nothing is held back, a posting sends no reply. -/
theorem post_replies (b : NoticeBody) (h : NothingHeldBack s) : (s.post b).link.replies = s.link.replies := by
  unfold State.post State.pump
  dsimp only
  split
  · rfl
  · rename_i idle
    have none := (h (by simpa using idle)).1
    unfold State.choose
    split
    · rename_i e _; simp [none] at e
    · rename_i e _; simp [none] at e
    · rfl
    · rfl

/-- A reply placed leaves room only where there was room. -/
theorem placeReply_room (r : Reply) (room : (s.placeReply r).link.replies.length < Config.replyFrames) :
    s.link.replies.length < Config.replyFrames := by
  unfold State.placeReply at room
  split at room
  · assumption
  · exact room

theorem cacheOrder_inReset (f : OrderFrame) (b : ReplyBody) : (s.cacheOrder f b).inReset = s.inReset := by
  unfold State.inReset; rw [cacheOrder_frame]

/-- An owner's move makes no decoder ready that was not. -/
theorem ready_before (m : Own s t) (h : NothingHeldBack s) (ready : t.decoderReady = true) :
    s.decoderReady = true := by
  simp only [State.decoderReady, Bool.and_eq_true, Bool.not_eq_true', decide_eq_true_eq] at ready ⊢
  obtain ⟨⟨reset, halted⟩, room⟩ := ready
  cases m with
  | inner t m =>
    cases m with
    | post b =>
      have reset' : (s.post b).inReset = s.inReset := by unfold State.inReset; rw [post_frame]
      have halted' : (s.post b).link.halted = s.link.halted := pump_halted _
      exact ⟨⟨reset' ▸ reset, halted' ▸ halted⟩, post_replies b h ▸ room⟩
    | reply r =>
      have reset' : (s.placeReply r).inReset = s.inReset := by unfold State.inReset; rw [placeReply_frame]
      have halted' : (s.placeReply r).link.halted = s.link.halted := by
        unfold State.placeReply
        split
        · exact pump_halted _
        · rfl
      exact ⟨⟨reset' ▸ reset, halted' ▸ halted⟩, placeReply_room r room⟩
    | cached f b =>
      have same : (s.cacheOrder f b).link.halted = s.link.halted ∧
          (s.cacheOrder f b).link.replies = s.link.replies := by
        unfold State.cacheOrder
        split <;> exact ⟨rfl, rfl⟩
      exact ⟨⟨cacheOrder_inReset (s := s) f b ▸ reset, same.1 ▸ halted⟩, same.2 ▸ room⟩
    | timed haltedAfter _ _ _ halts =>
      refine ⟨⟨reset, Bool.eq_false_iff.mpr fun was => ?_⟩, room⟩
      have halted : haltedAfter = false := halted
      simp [halts was] at halted
    | _ => exact ⟨⟨reset, halted⟩, room⟩
  | _ => exact ⟨⟨reset, halted⟩, room⟩

/-- An owner's moves leave no order waiting where none was. -/
theorem ordersTaken_owns (m : Owns s t) (b : Bounded s) (h : OrdersTaken s) : OrdersTaken t := by
  have kept : Bounded t ∧ OrdersTaken t :=
    m.keeps (P := fun u => Bounded u ∧ OrdersTaken u) (fun u v m ⟨b, h⟩ =>
      ⟨b.own m, fun ready =>
        (Owns.one m).inbox.trans (h (ready_before m b.2 ready))⟩) ⟨b, h⟩
  exact kept.2

/-- An order that is taken met an empty inbox. -/
theorem ordersTaken_ordered {f : OrderFrame} (o : Ordered f s t) (h : OrdersTaken s) : OrdersTaken t := by
  unfold Ordered at o
  split at o
  · rename_i takes
    obtain ⟨u, m, rfl⟩ := o
    have ready : s.decoderReady = true := by
      unfold State.takes at takes
      exact (Bool.and_eq_true_iff.mp takes).1
    have empty : u.link.inbox = [] := m.inbox.trans (h ready)
    intro _
    simp [State.leaveInbox, empty]
  · rw [o]; exact h

theorem ordersTaken_of_empty (h : t.link.inbox = []) : OrdersTaken t := fun _ => h

theorem ordersTaken_of_reset (h : t.inReset = true) : OrdersTaken t := fun ready => by
  simp [State.decoderReady, h] at ready

theorem ordersTaken_settle (s : State) : OrdersTaken s.settle := (settle_ends s).1

theorem endReset_inbox (s : State) (cause : ResetCause) (baud : Baud) : (s.endReset cause baud).link.inbox = [] :=
  congrArg (·.2.2.2) (pump_intake (s.afterReset cause baud))

theorem ordersTaken_takeScan (found : List OrderFrame × List Byte) (h : OrdersTaken s) :
    OrdersTaken (s.takeScan found) := by
  unfold State.takeScan State.arrive
  split
  · exact h
  · exact ordersTaken_settle _

theorem ordersTaken_frameSent (h : OrdersTaken s) : OrdersTaken s.frameSent := by
  unfold State.frameSent
  split
  · exact h
  · dsimp only
    split
    · exact ordersTaken_settle _
    · exact ordersTaken_settle _
    · exact ordersTaken_of_empty (endReset_inbox ..)

theorem ordersTaken_event {f : State → State} (own : OrdersTaken s → OrdersTaken (f s)) (e : event f s = .next t)
    (h : OrdersTaken s) : OrdersTaken t := event_kept own e h

/-- Every command leaves no order waiting that the decoder may take. -/
theorem ordersTaken_exec {i : Instr} (e : exec i s = .next t) (b : Bounded s) (h : OrdersTaken s) : OrdersTaken t := by
  have inners : Inners s t → OrdersTaken t := fun m => ordersTaken_owns m.owns b h
  cases c : commandFrame i with
  | some f =>
    by_cases known : ∀ q k b, i = .unknownOrder q k b → kindKnown k = false
    · exact ordersTaken_ordered (exec_ordered i f s t c known e) h
    · push Not at known
      obtain ⟨_, _, _, rfl, k⟩ := known
      simp only [ne_eq, Bool.not_eq_false] at k
      simp only [exec, execUnknownOrder, k] at e
      cases e
      exact h
  | none =>
    cases i with
    | byteArrival rx =>
      exact ordersTaken_event (f := (·.byteArrival rx)) (by cases rx <;> exact ordersTaken_takeScan _) e h
    | gapTimerExpiry =>
      refine ordersTaken_event (f := State.gapExpiry) (fun h => ?_) e h
      unfold State.gapExpiry
      split
      · exact ordersTaken_takeScan _ h
      · exact h
    | frameSent => exact ordersTaken_event (f := State.frameSent) ordersTaken_frameSent e h
    | supplyFail => cases e; exact ordersTaken_of_empty rfl
    | supplySettled =>
      cases e
      unfold State.supplySettled
      split
      · exact h
      · split
        · rename_i low; exact ordersTaken_of_reset (by simp [State.inReset, State.setSupply, low])
        · exact ordersTaken_of_empty (endReset_inbox ..)
    | nrstLow =>
      cases e
      unfold State.nrstLow
      split
      · exact h
      · exact ordersTaken_of_empty rfl
    | nrstHigh =>
      cases e
      unfold State.nrstHigh
      split
      · exact h
      · split
        · exact ordersTaken_of_empty (endReset_inbox ..)
        · rename_i unsettled
          exact ordersTaken_of_reset (by simpa [State.inReset, State.setNrst] using unsettled)
    | linkTimerExpiry => exact inners (event_inners _ linkExpiry_inners s t e)
    | boostTimerExpiry o => exact inners (event_inners _ (boostExpiry_inners · o) s t e)
    | maxOnTimerExpiry o => exact inners (event_inners _ (maxOnExpiry_inners · o) s t e)
    | recoverTimerExpiry o => exact inners (event_inners _ (recoverExpiry_inners · o) s t e)
    | deferTimerExpiry o => exact inners (event_inners _ (deferExpiry_inners · o) s t e)
    | shotStartDue o start => exact inners (event_inners _ (startDue_inners · o start) s t e)
    | shotDropDue o start => exact inners (event_inners _ (dropDue_inners · o start) s t e)
    | shotEndDue o => exact inners (event_inners _ (endDue_inners · o) s t e)
    | restoreTimerExpiry g => exact inners (event_inners _ (restoreExpiry_inners · g) s t e)
    | encPulse => exact ordersTaken_owns (event_owns _ pulse_owns s t e) b h
    | idxIndex => exact ordersTaken_owns (event_owns _ index_owns s t e) b h
    | stallTimerExpiry => exact ordersTaken_owns (event_owns _ stallExpiry_owns s t e) b h
    | faultSample i l => exact ordersTaken_owns (event_owns _ (faultSample_owns · i l) s t e) b h
    | railSample v => exact ordersTaken_owns (event_owns _ (railSample_owns · v) s t e) b h
    | _ => cases c

end ready

/-! ## The link timer -/

section timer

variable {s t : State}

theorem linkTimed_congr (h : timing t.link = timing s.link) (p : LinkTimed s) : LinkTimed t := by
  simp only [timing, Prod.mk.injEq] at h
  unfold LinkTimed
  rw [h.1, h.2.1, h.2.2]
  exact p

theorem linkTimed_of_outside (h : outside t = outside s) (p : LinkTimed s) : LinkTimed t :=
  linkTimed_congr (outside_timing h) p

theorem linkTimed_turns : KeptByTurns LinkTimed where
  tracker s _ _ p := linkTimed_congr (s := s) rfl p
  acts _ _ _ _ a p := linkTimed_of_outside a.outside p
  commit s _ p := linkTimed_congr (s := s) ((outside_timing (post_outside ..)).trans rfl) p

theorem linkTimed_changeMode (m : Mode) (p : LinkTimed s) : LinkTimed (s.changeMode m) := by
  have reported : LinkTimed (State.reportAll { s with mode := m } allOutputs) :=
    linkTimed_of_outside (reportAll_reported _ _).outside p
  unfold State.changeMode State.camModeReport
  split
  · exact reported
  · exact linkTimed_turns.takePending _ (linkTimed_congr rfl reported)

theorem linkTimed_sourceChange (mask : Byte) (p : LinkTimed s) : LinkTimed (s.sourceChange mask) :=
  linkTimed_congr (sourceChange_timing s mask) p

/-- LINK becomes active only with a link timeout in force. -/
theorem linkTimed_setLinkActive {a : Bool} (h : a = true → s.link.timeout ≠ 0) (p : LinkTimed s) :
    LinkTimed (s.setLinkActive a) := by
  unfold State.setLinkActive
  split
  · exact p
  · refine linkTimed_sourceChange _ fun zero => ⟨(p zero).1, ?_⟩
    exact Bool.eq_false_iff.mpr fun active => h active zero

theorem linkTimed_setRailMonitor (m : RailMonitor) (p : LinkTimed s) : LinkTimed (s.setRailMonitor m) := by
  unfold State.setRailMonitor
  dsimp only
  split
  · exact p
  · exact linkTimed_sourceChange _ p

theorem linkTimed_moved {g : GroupId} (m : ∃ state timer, Moved g state timer s t) (p : LinkTimed s) : LinkTimed t :=
  have ⟨_, _, m⟩ := m
  linkTimed_congr m.timing p

theorem linkTimed_hostTrip (g : GroupId) (p : LinkTimed s) : LinkTimed (s.hostTrip g) := by
  unfold State.hostTrip
  split
  · exact p
  · exact linkTimed_moved (evalGroup_moved _ g) p

theorem linkTimed : Kept LinkTimed where
  plumbed _ _ h p := linkTimed_congr h.timing p
  reset _ _ _ := fun _ => ⟨rfl, rfl⟩
  advance _ p := p
  acts _ _ _ a p := linkTimed_of_outside a.outside p
  policy _ _ p := p
  setIset f s p := by
    unfold ownSetIset
    split <;> exact p
  setProfile f s p := by
    unfold ownSetProfile
    dsimp only
    repeat' split
    all_goals exact p
  start s p := by
    unfold ownStart
    split
    · exact p
    · exact linkTimed_changeMode _ p
  stop s p := by
    unfold ownStop
    split
    · exact p
    · exact linkTimed_of_outside (Acts.purgeQueues (W := fun _ => False) _).outside (linkTimed_changeMode _ p)
  pause s p := by
    unfold ownPause
    split
    · exact p
    · exact linkTimed_changeMode _ p
  resume s p := by
    unfold ownResume
    split
    · exact p
    · exact linkTimed_changeMode _ p
  setAngle f s p := by
    rcases ownSetAngle_cases f s with e | ⟨-, e | ⟨-, e⟩⟩ <;> rw [e]
    · exact p
    · exact p
    · exact linkTimed_turns.trackerTo_of _ (linkTimed_congr (s := s) rfl p)
  setCycle _ _ p := p
  pulse _ := linkTimed_turns.pulse
  index _ := linkTimed_turns.index
  stall _ := linkTimed_turns.stall
  camPut _ w s _ p := by
    unfold ownCamPut
    dsimp only
    repeat' split
    all_goals exact p
  camDrop b s p := by
    unfold ownCamDrop
    repeat' split
    all_goals exact p
  camClear s p := by
    unfold ownCamClear
    split <;> exact p
  camCopy s p := by
    unfold ownCamCopy
    split <;> exact p
  camCommit s p := by
    unfold ownCamCommit
    dsimp only
    split
    · exact p
    · split
      · exact p
      · exact linkTimed_turns.commit s _ p
  camAbort s p := by
    unfold ownCamAbort
    split <;> exact p
  setLink f s p := by
    unfold ownSetLink
    dsimp only
    split
    · rename_i zero
      unfold State.setLinkActive
      dsimp only
      split
      · rename_i inactive; exact fun _ => ⟨rfl, inactive⟩
      · exact linkTimed_sourceChange _ fun _ => ⟨rfl, rfl⟩
    · rename_i timed; exact fun zero => absurd zero timed
  touchLink s p := by
    unfold State.touchLink
    split
    · exact p
    · rename_i timed
      have restarted : LinkTimed { s with link := { s.link with
          timer := some (after s.now (msToUs s.link.timeout)) } } := fun zero => absurd zero timed
      exact linkTimed_setLinkActive (by simp) restarted
  linkExpiry s p := by
    unfold State.linkExpiry
    split
    · rename_i due
      have timed : s.link.timeout ≠ 0 := fun zero => by simp [(p zero).1, timerDue] at due
      have stopped : LinkTimed { s with link := { s.link with timer := none } } := fun zero => absurd zero timed
      exact linkTimed_setLinkActive (fun _ => timed) stopped
    · exact p
  setFaultin _ f s _ p := by
    unfold ownSetFaultin
    dsimp only
    split
    · exact p
    · dsimp only
      split
      · exact linkTimed_sourceChange _ p
      · exact p
  setRail _ f s _ p := by
    unfold ownSetRail
    split
    · exact p
    · split
      · exact p
      · exact linkTimed_setRailMonitor _ p
  setTgroup f s p := by
    unfold ownSetTgroup
    split
    · exact p
    · exact linkTimed_moved (reviewGroup_moved _ f.group) p
  trip m s p := by
    have fold : ∀ (l : List GroupId) (s : State), LinkTimed s →
        LinkTimed (l.foldl (fun s g => if m.getLsbD g.val then s.hostTrip g else s) s) := by
      intro l
      induction l with
      | nil => intro s p; exact p
      | cons g l ih =>
        intro s p
        rw [List.foldl_cons]
        refine ih _ ?_
        split
        · exact linkTimed_hostTrip g p
        · exact p
    exact fold allGroups s p
  release g s p := by
    unfold ownRelease
    split
    · exact p
    · split
      · exact p
      · unfold State.releaseOrder
        dsimp only
        split
        · exact linkTimed_moved ⟨_, _, releaseGroup_moved _ g _⟩ p
        · split
          · exact linkTimed_moved (evalGroup_moved _ g) p
          · exact p
  faultSample i l s p := by
    unfold State.faultSample
    dsimp only
    split
    · split
      · exact p
      · exact linkTimed_sourceChange _ p
    · exact p
  railSample v s p := by
    unfold State.railSample
    dsimp only
    split
    · exact linkTimed_setRailMonitor _ p
    · exact p
  restoreExpiry g s p := by
    unfold State.restoreExpiry
    dsimp only
    split
    · exact linkTimed_moved ⟨_, _, releaseGroup_moved s g _⟩ p
    · exact p

end timer

/-! ## The statement -/

section step

variable {s t : State}

theorem tick_link (s : State) :
    s.tick.notices = s.notices ∧ s.tick.pins = s.pins ∧
      s.tick.link = { s.link with tx := s.link.tx.map fun t => t.tick s.link.baud } := by
  unfold State.tick
  dsimp only
  rw [arrange_frame]
  exact ⟨rfl, rfl, rfl⟩

/-- A microsecond lets no frame go and no order come. -/
theorem tick_kept (b : Bounded s) (h : OrdersTaken s) : Bounded s.tick ∧ OrdersTaken s.tick := by
  obtain ⟨notices, pins, link⟩ := tick_link s
  obtain ⟨bounds, nothing⟩ := b
  refine ⟨⟨?_, fun idle => ?_⟩, fun ready => ?_⟩
  · unfold Machine.LinkBounds; rw [notices, link]; exact bounds
  · rw [link] at idle ⊢
    rw [notices]
    exact nothing (by simpa using idle)
  · have before : s.decoderReady = true := by
      rw [← ready]
      unfold State.decoderReady State.inReset
      rw [pins, link]
    rw [link]
    exact h before

theorem step_kept (e : step s = .next t) (b : Bounded s) (h : OrdersTaken s) : Bounded t ∧ OrdersTaken t := by
  unfold Machine.step at e
  split at e
  · rename_i c rest _
    have b' : Bounded { s with pending := rest } := b
    exact ⟨b'.moves (exec_moves _ _ _ e), ordersTaken_exec e b' h⟩
  · cases e
    unfold State.idle
    split
    · exact ⟨b, h⟩
    · split
      · split
        · exact ⟨b, h⟩
        · exact tick_kept b h
      · exact tick_kept b h

end step

/-- Settles O51: the bounds through every move, the orders by what each command leaves in the inbox, and the link timer by
its owners. -/
theorem linkBoundsKept : Obligations.LinkBoundsKept := by
  intro s t ⟨bounds, nothing, orders, timed⟩ e
  obtain ⟨⟨boundsAfter, nothingAfter⟩, ordersAfter⟩ := step_kept e ⟨bounds, nothing⟩ orders
  exact ⟨boundsAfter, nothingAfter, ordersAfter, linkTimed.step e timed⟩

end Sys2Proof.Laws.LinkBounds
end

section
/-! SUPPORT. The machine: every command goes on, the values after a reset, what begins and ends a reset, and the orders of
the Interlock Unit. -/

namespace Sys2Proof.Laws.Commands

open Sys2Proof Sys2Proof.Machine Sys2Proof.Laws.Drive Sys2Proof.Laws.Invariants Sys2Proof.Laws.Trips

variable {s t : State}

/-! ## Every command goes on -/

/-- Settles O1: by the definition of a step. -/
theorem frontCommandRuns : Obligations.FrontCommandRuns := fun _ _ _ => rfl

theorem exec_next (c : Instr) (s : State) : ∃ t, exec c s = .next t := by
  cases c with
  | unknownOrder q k b =>
    by_cases known : kindKnown k = true
    · exact ⟨s, by simp [exec, execUnknownOrder, known]⟩
    · refine ⟨takeOrder ⟨q, k, b⟩ (fun _ => .error .unknownKind) (fun (_ : Unit) s => refuse s .unknownKind) s, ?_⟩
      simp [exec, execUnknownOrder, known, order]
  | _ => exact ⟨_, rfl⟩

theorem pump_pending (s : State) : s.pump.pending = s.pending := by rw [pump_frame]

theorem Own.pending (m : Own s t) : t.pending = s.pending := by
  cases m with
  | inner t m => rw [m.frame]
  | _ => rfl

theorem Move.pending (m : Move s t) : t.pending = s.pending := by
  cases m with
  | own t m => exact Own.pending m
  | left f => rw [leaveInbox_frame]
  | sent _ _ _ => exact pump_pending _
  | ended _ _ => exact pump_pending _
  | _ => rfl

theorem exec_pending {c : Instr} (e : exec c s = .next t) : t.pending = s.pending :=
  (exec_moves c s t e).keeps (P := fun u => u.pending = s.pending) (fun _ _ m h => (Move.pending m).trans h) rfl

/-- Settles O2: no arm of `exec` answers anything but a next state, and no move touches the queue of commands. -/
theorem everyCommandGoesOn : Obligations.EveryCommandGoesOn := fun c s =>
  have ⟨t, e⟩ := exec_next c s
  ⟨t, e, exec_pending e⟩

/-! ## Orders that are not taken -/

/-- An order command whose frame the decoder does not take now does nothing. -/
theorem exec_order_waits {c : Instr} {f : OrderFrame} (h : commandFrame c = some f) (w : s.takes f = false) :
    exec c s = .next s := by
  obtain ⟨t, e⟩ := exec_next c s
  by_cases known : ∀ q k b, c = .unknownOrder q k b → kindKnown k = false
  · have o := exec_ordered c f s t h known e
    simp only [Ordered, w, Bool.false_eq_true, if_false] at o
    rw [e, o]
  · push Not at known
    obtain ⟨_, _, _, rfl, k⟩ := known
    simp only [ne_eq, Bool.not_eq_false] at k
    simp [exec, execUnknownOrder, k]

theorem decoderReady_of_inReset (h : s.inReset = true) : s.decoderReady = false := by
  simp [State.decoderReady, h]

theorem takes_of_not_ready {f : OrderFrame} (h : s.decoderReady = false) : s.takes f = false := by
  simp [State.takes, h]

/-- Settles O4: the decoder is not ready and no event is taken. -/
theorem resetHoldsEverything : Obligations.ResetHoldsEverything := by
  intro c s reset supplyFail supplySettled nrstLow nrstHigh
  cases frame : commandFrame c with
  | some f => exact exec_order_waits frame (takes_of_not_ready (decoderReady_of_inReset reset))
  | none =>
    cases c with
    | supplyFail => exact absurd rfl supplyFail
    | supplySettled => exact absurd rfl supplySettled
    | nrstLow => exact absurd rfl nrstLow
    | nrstHigh => exact absurd rfl nrstHigh
    | byteArrival | gapTimerExpiry | linkTimerExpiry | frameSent | encPulse | idxIndex | stallTimerExpiry
    | boostTimerExpiry | maxOnTimerExpiry | recoverTimerExpiry | deferTimerExpiry | shotStartDue | shotDropDue
    | shotEndDue | faultSample | railSample | restoreTimerExpiry =>
      simp only [exec, execByteArrival, execGapTimerExpiry, execLinkTimerExpiry, execFrameSent, execEncPulse,
        execIdxIndex, execStallTimerExpiry, execBoostTimerExpiry, execMaxOnTimerExpiry, execRecoverTimerExpiry,
        execDeferTimerExpiry, execShotStartDue, execShotDropDue, execShotEndDue, execFaultSample, execRailSample,
        execRestoreTimerExpiry, event_held reset]
    | _ => cases frame

/-! ## The values after a reset -/

/-- Settles O5: each block reads as its record after a reset. -/
theorem resetStateValues : Obligations.ResetStateValues :=
  ⟨rfl, rfl, rfl, rfl, fun _ => rd_replicate .., fun _ => rd_replicate .., fun _ => rd_replicate .., by decide,
    fun _ => rd_replicate .., fun _ => rd_replicate .., rfl, fun _ => rd_replicate .., fun _ => rd_replicate .., rfl, rfl,
    fun i => by rw [show State.reset.faultIn i = FaultIn.afterReset from rd_replicate ..]; exact ⟨rfl, rfl, rfl, rfl, rfl⟩,
    rfl, rfl, rfl, rfl, rfl, rfl, rfl, by decide, fun _ => rd_replicate .., rfl, rfl, rfl, rfl, rfl, rfl, rfl, rfl, rfl,
    rfl, rfl, rfl, rfl, fun i => by rw [show State.reset.faultIn i = FaultIn.afterReset from rd_replicate ..]; rfl, rfl,
    rfl⟩

/-- Settles O60: the values after a reset keep every invariant. -/
theorem resetHasInvariants : Obligations.ResetHasInvariants := by
  have drive : DriveKept True State.reset := (driveKept True).reset State.reset .power .b115200
  have tables : TablesKept True State.reset := (tablesKept True).reset State.reset .power .b115200
  have track : TrackKept State.reset := trackKept.reset State.reset .power .b115200
  have passes : PassesPlaced State.reset := passesKept_cases.reset State.reset .power .b115200
  have trips : TripKept State.reset := tripKept.reset State.reset .power .b115200
  have queues : Shots.QueuesKept State.reset := Shots.queuesKept.reset State.reset .power .b115200
  have link : Machine.LinkBounds State.reset :=
    ⟨Nat.zero_le _, Nat.zero_le _, Nat.zero_le _, Nat.zero_le _, Nat.zero_le _⟩
  have nothing : NothingHeldBack State.reset := fun _ => ⟨rfl, rfl⟩
  exact ⟨⟨link, nothing, fun _ => rfl, fun _ => ⟨rfl, rfl⟩⟩, queues, ⟨drive.1, drive.2 trivial⟩, track, passes, tables.1,
    tables.2 trivial, trips.1, trips.2⟩

/-! ## Resets -/

theorem anyGroupNotNormal_afterReset (s : State) (cause : ResetCause) (baud : Baud) :
    (s.afterReset cause baud).anyGroupNotNormal = false := by
  simp [State.anyGroupNotNormal, State.group, State.afterReset, rd_replicate, TripGroup.afterReset]

theorem started_bytes (cause : ResetCause) : (Notice.mk 0 (.started cause)).bytes = [0, 0, causeByte cause] := by
  have number : bytes16 0 = [0, 0] := by decide
  exact congrArg (· ++ [causeByte cause]) number

/-- At the end of a reset the arbiter begins STARTED. -/
theorem endReset_eq (s : State) (cause : ResetCause) (baud : Baud) :
    s.endReset cause baud =
      { s.afterReset cause baud with
        link := { Link.afterReset baud with
          tx := some ⟨⟨true, 0, 0xC0, 0x80, [0, 0, causeByte cause]⟩, .nothing, 0⟩ }
        notices := ⟨[], 1⟩ } := by
  have flags : State.flags { s.afterReset cause baud with
      notices := ⟨[], 1⟩, link := { Link.afterReset baud with streak := 0 } } true = 0x80 := by
    have normal : State.anyGroupNotNormal { s.afterReset cause baud with
      notices := ⟨[], 1⟩, link := { Link.afterReset baud with streak := 0 } } = false :=
      anyGroupNotNormal_afterReset s cause baud
    unfold State.flags
    rw [normal]
    rfl
  refine (show s.endReset cause baud =
    (s.afterReset cause baud).beginNotice ⟨0, .started cause⟩ [] from rfl).trans ?_
  simp only [State.beginNotice, State.beginFrame]
  refine (congrArg (fun flags : Byte => ({ s.afterReset cause baud with
    link := { Link.afterReset baud with
      tx := some ⟨noticeFrame ⟨0, .started cause⟩ flags, .nothing, 0⟩ }
    notices := ⟨[], 1⟩ } : State)) flags).trans ?_
  simp only [noticeFrame, started_bytes, NoticeBody.kind]

theorem nrstLow_begins (high : s.pins.nrst = .high) : s.nrstLow = (s.setNrst .low).holdReset := by
  simp [State.nrstLow, high]

theorem nrstLow_again (low : s.pins.nrst = .low) : s.nrstLow = s := by simp [State.nrstLow, low]

theorem supplySettled_ends (unsettled : s.pins.supplySettled = false) (high : s.pins.nrst = .high) :
    s.supplySettled = (s.setSupply true).endReset .power .b115200 := by
  simp [State.supplySettled, unsettled, high]

theorem supplySettled_waits (unsettled : s.pins.supplySettled = false) (low : s.pins.nrst = .low) :
    s.supplySettled = s.setSupply true := by
  simp [State.supplySettled, unsettled, low]

theorem nrstHigh_ends (low : s.pins.nrst = .low) (settled : s.pins.supplySettled = true) :
    s.nrstHigh = (s.setNrst .high).endReset .line .b115200 := by
  simp [State.nrstHigh, low, settled]

theorem nrstHigh_waits (low : s.pins.nrst = .low) (unsettled : s.pins.supplySettled = false) :
    s.nrstHigh = s.setNrst .high := by
  simp [State.nrstHigh, low, unsettled]

theorem nrstLow_inReset (s : State) : s.nrstLow.inReset = true := by
  cases level : s.pins.nrst with
  | high => rw [nrstLow_begins level]; simp [State.inReset, State.holdReset, State.setNrst, State.afterReset]
  | low => rw [nrstLow_again level]; simp [State.inReset, level]

/-- Settles O6: a reset begins and ends with every block at its values after reset; the STARTED frame is begun by the
arbiter at the end. -/
theorem resetsBeginAndEnd : Obligations.ResetsBeginAndEnd := by
  refine ⟨fun s => ⟨rfl, fun high => congrArg _ (nrstLow_begins high), fun low => congrArg _ (nrstLow_again low), ?_, ?_,
    ?_⟩, fun s => ⟨?_, ?_, ?_, ?_, ?_, ?_⟩⟩
  · rintro t ⟨⟩
    rfl
  · rintro t ⟨⟩
    exact nrstLow_inReset s
  · intro o half reset
    simp [State.pinLevel, reset]
  · intro unsettled high
    exact congrArg _ ((supplySettled_ends unsettled high).trans (endReset_eq ..))
  · intro unsettled low
    exact congrArg _ (supplySettled_waits unsettled low)
  · intro settled
    simp [exec, execSupplySettled, State.supplySettled, settled]
  · intro low settled
    exact congrArg _ ((nrstHigh_ends low settled).trans (endReset_eq ..))
  · intro low unsettled
    exact congrArg _ (nrstHigh_waits low unsettled)
  · intro high
    simp [exec, execNrstHigh, State.nrstHigh, high]

/-- Settles O7: RESET halts the decoder; the last byte of its reply makes the reset, with the baud code in force. -/
theorem resetOrderResets : Obligations.ResetOrderResets := by
  refine ⟨fun seq s taken => order_taken taken rfl, fun s halted => ?_, fun _ => rfl, fun s x running sending bound => ?_⟩
  · simp [State.decoderReady, halted]
  · refine (event_taken (f := State.frameSent) running).trans ?_
    have ends : s.frameSent = State.endReset { s with link := { s.link with tx := none } } .order s.link.baud := by
      simp only [State.frameSent, sending, bound]
    exact congrArg _ (ends.trans (endReset_eq ..))

/-! ## The orders of the Interlock Unit -/

/-- Settles O43: the owners' answers, case by case. -/
theorem isetSetAndConflictRead : Obligations.IsetSetAndConflictRead := by
  refine ⟨fun seq body s i capacity limit taken decoded => ⟨fun running => ?_, fun idle => ?_⟩,
    fun seq s taken => order_taken taken rfl⟩
  · refine (order_taken taken decoded).trans ?_
    simp [ownSetIset, running, refuse]
  · refine (order_taken taken decoded).trans ?_
    simp [ownSetIset, idle]

end Sys2Proof.Laws.Commands
end

section
/-! SUPPORT. The arbiter's choice case by case, what the end of an order leaves, what a posting leaves, and the end of a
frame. -/

namespace Sys2Proof.Laws.Transmit

open Sys2Proof Sys2Proof.Machine

variable {s : State}

/-! ## The arbiter -/

/-- A reply begins: alone it clears the streak, before a waiting notice it counts. -/
theorem pump_reply_alone {r : Reply} {rs : List Reply} (idle : s.link.tx = none) (replies : s.link.replies = r :: rs)
    (notices : s.notices.waiting = []) :
    s.pump = { s with link := { s.link with
      replies := rs, streak := 0, tx := some ⟨replyFrame r (s.flags false), r.bound, 0⟩ } } := by
  simp only [State.pump, State.choose, idle, replies, notices]
  rfl

theorem pump_reply_first {r : Reply} {rs : List Reply} {n : Notice} {ns : List Notice} (idle : s.link.tx = none)
    (replies : s.link.replies = r :: rs) (notices : s.notices.waiting = n :: ns) (below : s.link.streak < 4) :
    s.pump = { s with link := { s.link with
      replies := rs, streak := s.link.streak + 1, tx := some ⟨replyFrame r (s.flags false), r.bound, 0⟩ } } := by
  simp only [State.pump, State.choose, idle, replies, notices, Config.streakLimit, below, if_true]
  rfl

/-- A notice begins where no reply waits or the streak is full. -/
theorem pump_notice {n : Notice} {ns : List Notice} (idle : s.link.tx = none)
    (turn : s.link.replies = [] ∨ 4 ≤ s.link.streak) (notices : s.notices.waiting = n :: ns) :
    s.pump =
      { s with
        notices := { s.notices with waiting := ns }
        link := { s.link with
          streak := 0
          tx := some
            ⟨noticeFrame n (State.flags { s with notices := { s.notices with waiting := ns } } true), .nothing, 0⟩ } } := by
  have chosen : s.pump = s.beginNotice n ns := by
    cases replies : s.link.replies with
    | nil => simp [State.pump, State.choose, idle, replies, notices]
    | cons r rs =>
      have full : 4 ≤ s.link.streak := turn.resolve_left (by simp [replies])
      simp [State.pump, State.choose, idle, replies, notices, Config.streakLimit, Nat.not_lt.mpr full]
  rw [chosen]
  rfl

/-! ## Replies and notices -/

theorem placeReply_busy {r : Reply} (room : s.link.replies.length < Config.replyFrames)
    (busy : s.link.tx.isSome = true) :
    s.placeReply r = { s with link := { s.link with replies := s.link.replies ++ [r] } } := by
  simp only [State.placeReply, room, if_true]
  exact pump_busy busy

theorem placeReply_idle {r : Reply} (idle : s.link.tx = none) (replies : s.link.replies = [])
    (notices : s.notices.waiting = []) :
    s.placeReply r =
      { s with link := { s.link with tx := some ⟨replyFrame r (s.flags false), r.bound, 0⟩, streak := 0 } } := by
  have room : s.link.replies.length < Config.replyFrames := by simp [replies, Config.replyFrames]
  simp only [State.placeReply, room, if_true]
  have alone : s.link.replies ++ [r] = r :: [] := by simp [replies]
  refine (pump_reply_alone (s := { s with link := { s.link with replies := s.link.replies ++ [r] } }) idle alone
    notices).trans ?_
  simp only [← replies]
  rfl

theorem cacheOrder_eq (s : State) (f : OrderFrame) (b : ReplyBody) :
    s.cacheOrder f b = { s with link := { s.link with cache := cacheAfter s.link.cache f b } } := by
  unfold State.cacheOrder cacheAfter
  split <;> rfl

theorem leaveInbox_eq (s : State) (f : OrderFrame) :
    s.leaveInbox f = { s with link := { s.link with inbox := inboxAfter s.link.inbox f } } := by
  unfold State.leaveInbox inboxAfter
  split <;> rfl

theorem answer_eq (s : State) (f : OrderFrame) (b : ReplyBody) (d : Bound) :
    s.answer f b d =
      let t := s.placeReply ⟨f.seq, f.kind + 0x80, b, d⟩
      { t with link := { t.link with cache := cacheAfter t.link.cache f b, inbox := inboxAfter t.link.inbox f } } := by
  unfold State.answer
  rw [leaveInbox_eq, cacheOrder_eq]
  rfl

theorem pump_next (s : State) : s.pump.notices.next = s.notices.next := by
  unfold State.pump State.choose
  split
  · rfl
  · split
    · rfl
    · split <;> rfl
    · rfl
    · rfl

theorem post_next (s : State) (b : NoticeBody) : (s.post b).notices.next = s.notices.next + 1 := pump_next _

theorem post_busy {b : NoticeBody} (busy : s.link.tx.isSome = true) :
    s.post b =
      { s with notices :=
        ⟨if s.notices.waiting.length < Config.noticePlaces then s.notices.waiting ++ [⟨s.notices.next, b⟩]
          else s.notices.waiting, s.notices.next + 1⟩ } := pump_busy busy

theorem post_idle {b : NoticeBody} (idle : s.link.tx = none) (replies : s.link.replies = [])
    (notices : s.notices.waiting = []) :
    s.post b =
      { s with
        notices := ⟨[], s.notices.next + 1⟩
        link := { s.link with
          streak := 0
          tx := some ⟨noticeFrame ⟨s.notices.next, b⟩ (s.flags true), .nothing, 0⟩ } } := by
  have room : s.notices.waiting.length < Config.noticePlaces := by simp [notices, Config.noticePlaces]
  have alone : s.notices.waiting ++ [⟨s.notices.next, b⟩] = (⟨s.notices.next, b⟩ : Notice) :: [] := by simp [notices]
  unfold State.post
  simp only [room, if_true, alone]
  refine (pump_notice (s := { s with notices := ⟨[⟨s.notices.next, b⟩], s.notices.next + 1⟩ }) idle (.inl replies)
    rfl).trans ?_
  simp only [State.flags, notices]
  rfl

/-- Settles O8: the reply placed with the transmitter busy or idle, then the cache and the inbox; and the postings. -/
theorem repliesAndNoticesPlaced : Obligations.RepliesAndNoticesPlaced := by
  refine ⟨fun s f b d room => ⟨fun busy => ?_, fun idle replies notices => ?_⟩,
    fun s b => ⟨post_next s b, fun busy room => ?_, fun busy full => ?_⟩,
    fun s r => ⟨fun full => placeReply_full full, fun room busy => placeReply_busy room busy, placeReply_idle⟩,
    fun s b => post_idle⟩
  · rw [answer_eq, placeReply_busy room busy]
  · rw [answer_eq, placeReply_idle idle replies notices]
    rfl
  · rw [post_busy busy, if_pos (show _ < Config.noticePlaces from room)]
  · rw [post_busy busy, if_neg (by simp [full, Config.noticePlaces])]

/-! ## The end of a frame -/

/-- Settles O9: the arbiter by what waits, and the end of a frame by what its last byte sets off. -/
theorem arbiterChoosesWhenFree : Obligations.ArbiterChoosesWhenFree := by
  refine ⟨fun s => ⟨pump_busy, fun _ => pump_quiet, fun _ _ => pump_reply_alone, fun _ _ _ _ => pump_reply_first,
    fun _ _ => pump_notice⟩, fun s running => ?_⟩
  have taken : exec .frameSent s = .next s.frameSent := event_taken (f := State.frameSent) running
  refine ⟨fun idle => ?_, fun x sending bound => ?_, fun x b sending bound same => ?_, fun x b sending bound differs => ?_⟩
  all_goals refine taken.trans (congrArg _ ?_)
  · simp [State.frameSent, idle]
  · simp [State.frameSent, sending, bound]
  · simp [State.frameSent, sending, bound, State.changeBaud, same]
  · simp [State.frameSent, sending, bound, State.changeBaud, differs]

end Sys2Proof.Laws.Transmit
end

section
/-! SUPPORT. The FLAGS byte, bit by bit, and the bytes of what the part sends. -/

namespace Sys2Proof.Laws.Sent

open Sys2Proof Sys2Proof.Machine

/-! ## FLAGS -/

theorem mem_allGroups (g : GroupId) : g ∈ allGroups := by
  revert g
  decide

theorem anyGroupNotNormal_iff (s : State) :
    s.anyGroupNotNormal = true ↔ ∃ g, (s.group g).state = .tripped ∨ (s.group g).state = .releasing := by
  have other (x : GroupState) : x ≠ .normal ↔ x = .tripped ∨ x = .releasing := by cases x <;> simp
  simp [State.anyGroupNotNormal, mem_allGroups, other]

/-- The FLAGS byte of a mode and five conditions. -/
def flagsByte (m : Mode) (group synced notices commit notice : Bool) : Byte :=
  byteOf (modeCode m + 4 * bit group + 8 * bit synced + 16 * bit notices + 32 * bit commit + 128 * bit notice)

theorem flags_eq (s : State) (n : Bool) :
    s.flags n = flagsByte s.mode s.anyGroupNotNormal (s.tracker.state = .synced) (!s.notices.waiting.isEmpty)
      s.cam.commitPending n := rfl

/-- Each condition stands in its bit: a finite table, of the three modes and the five conditions. -/
theorem flagsByte_bits (m : Mode) : ∀ a b c d e : Bool,
    (flagsByte m a b c d e).extractLsb' 0 2 = (match m with | .idle => 0#2 | .run => 1#2 | .paused => 2#2) ∧
      (flagsByte m a b c d e).getLsbD 2 = a ∧ (flagsByte m a b c d e).getLsbD 3 = b ∧
      (flagsByte m a b c d e).getLsbD 4 = c ∧ (flagsByte m a b c d e).getLsbD 5 = d ∧
      (flagsByte m a b c d e).getLsbD 6 = false ∧ (flagsByte m a b c d e).getLsbD 7 = e := by
  cases m <;> decide

/-! ## Masks -/

theorem outputMask_fold (os : List Output) (m : Word16) (o : Output) :
    (os.foldl (fun m o => m ||| BitVec.ofNat 16 (2 ^ o.val)) m).getLsbD o.val = true ↔
      m.getLsbD o.val = true ∨ o ∈ os := by
  induction os generalizing m with
  | nil => simp
  | cons x os ih =>
    have single : (BitVec.ofNat 16 (2 ^ x.val)).getLsbD o.val = true ↔ o = x := by
      rw [BitVec.getLsbD_ofNat, Nat.testBit_two_pow]
      simp only [o.isLt, decide_true, Bool.true_and, decide_eq_true_eq, Fin.ext_iff]
      exact eq_comm
    rw [List.foldl_cons, ih, BitVec.getLsbD_or, Bool.or_eq_true, single, List.mem_cons, or_assoc]

theorem outputMask_bit (os : List Output) (o : Output) : (outputMask os).getLsbD o.val = true ↔ o ∈ os := by
  rw [outputMask, outputMask_fold]
  simp

/-! ## The CRC -/

theorem crcByte_eq (r : Word16) (b : Byte) :
    crcByte r b =
      (List.range 8).foldl (fun r _ => if r.getLsbD 15 then (r <<< 1) ^^^ 0x1021 else r <<< 1)
        (r ^^^ (b.setWidth 16 <<< 8)) := rfl

/-! ## Fields that may be absent -/

theorem optTimeBytes_eq (t : Option Time) : optTimeBytes t = boolByte t.isSome :: bytes32 (t.getD 0) := by
  cases t <;> rfl

theorem bytes32_zero : bytes32 0 = [0, 0, 0, 0] := by decide

/-- Settles O10: the FLAGS byte by its bits, the bodies field by field. -/
theorem flagsByteSaysState : Obligations.FlagsByteSaysState := by
  refine ⟨fun s n => ?_, ?_, ?_, ?_, ?_⟩
  · obtain ⟨mode, group, synced, notices, commit, spare, notice⟩ := flagsByte_bits s.mode s.anyGroupNotNormal
      (s.tracker.state = .synced) (!s.notices.waiting.isEmpty) s.cam.commitPending n
    rw [flags_eq, group, synced, notices, anyGroupNotNormal_iff]
    exact ⟨mode, Iff.rfl, decide_eq_true_iff, by simp, commit, spare, notice⟩
  · exact ⟨by decide, by decide, by decide, by decide, by decide, by decide, by decide, by decide, by decide, by decide,
      by decide, by decide, by decide, by decide, by decide, by decide, by decide, by decide, outputMask_bit⟩
  · intro b two time num flag opt origin set mask met entry
    have optional (t : Option Time) : optTimeBytes t = opt t := optTimeBytes_eq t
    have origins (o : Option Origin) : originBytes o = origin o := by
      rcases o with - | ⟨tag⟩ | ⟨slot⟩ | - <;> rfl
    have sets (i : Option SetId) : isetByte i = set i := by cases i <;> rfl
    have entries (e : Entry) : entryBytes e = entry e := by
      obtain ⟨tag, start, duration, grace, report, state⟩ := e
      cases state <;> rfl
    refine ⟨fun _ => rfl, fun r => ?_, fun _ _ _ _ => rfl, fun _ _ => rfl, fun _ => rfl, fun _ => rfl, fun _ _ => rfl,
      fun r => ?_, fun _ _ _ _ => rfl, fun _ _ => rfl, fun r n i m => ?_, fun _ => rfl, fun len first es => ?_,
      fun _ => ⟨rfl, rfl⟩, fun _ => rfl, fun _ _ => rfl, fun sel i w p => ?_, fun _ _ _ _ _ => rfl, rfl, fun r => ?_,
      fun _ => rfl, fun _ => rfl, fun _ => rfl, fun _ => rfl, fun n body => ?_, fun _ => rfl, fun _ _ => rfl,
      fun _ _ => rfl⟩
    · simp only [ReplyBody.bytes, ReplyBody.fields, ReplyBody.result, resultByte, statusBytes, List.cons_append,
        List.nil_append, List.append_assoc]
      rfl
    · rw [← optional, ← optional, ← optional, ← optional, ← optional, ← optional, ← origins, ← origins, ← sets]
      simp only [ReplyBody.bytes, ReplyBody.fields, ReplyBody.result, resultByte, channelBytes, List.cons_append,
        List.nil_append, List.append_assoc]
      rfl
    · cases m <;> rfl
    · rw [← funext entries]
      rfl
    · cases p with
      | none => exact congrArg ([0, sel.byte, b i.val, b w.output.val] ++ num w.onAngle ++ num w.offAngle ++
          [b w.divisor, b w.phase] ++ 0 :: 0 :: ·) bytes32_zero
      | some p => rfl
    · rw [← origins]
      rfl
    · refine ⟨?_, ?_, ?_, ?_, ?_, ?_, ?_, ?_, ?_, ?_, ?_⟩
      · rintro c rfl
        exact ⟨rfl, rfl⟩
      · rintro o tag r t d u rfl
        rw [← optional]
        exact ⟨rfl, rfl⟩
      · rintro o tag r t g u rfl
        exact ⟨rfl, rfl⟩
      · rintro o i c r t rfl
        exact ⟨rfl, rfl⟩
      · rintro o i t rfl
        rw [← sets]
        exact ⟨rfl, rfl⟩
      · rintro o g d t rfl
        rw [← origins]
        refine ⟨rfl, ?_⟩
        simp only [Notice.bytes, NoticeBody.fields, List.cons_append, List.append_assoc]
        rfl
      · rintro x y c rfl
        exact ⟨rfl, rfl⟩
      · rintro c cycle k rfl
        refine ⟨rfl, ?_⟩
        simp only [Notice.bytes, NoticeBody.fields, List.append_assoc]
        rfl
      · rintro g m k t rfl
        exact ⟨rfl, rfl⟩
      · rintro g how t rfl
        exact ⟨rfl, rfl⟩
      · rintro o i t g rfl
        rw [← origins]
        exact ⟨rfl, rfl⟩
  · exact fun _ => rfl
  · decide +kernel

end Sys2Proof.Laws.Sent
end

section
/-! SUPPORT. What the Order Decoder refuses: the fields out of range, the lengths, and the kinds it does not know. -/

namespace Sys2Proof.Laws.Refusals

open Sys2Proof Sys2Proof.Machine

/-! ## Fields -/

theorem le16_toNat (b0 b1 : Byte) : (le16 b0 b1).toNat = b1.toNat * 256 + b0.toNat := by
  have small : b0.toNat < 2 ^ 8 := b0.isLt
  rw [le16, BitVec.toNat_append, ← Nat.shiftLeft_add_eq_or_of_lt small, Nat.shiftLeft_eq]

theorem outputOf_eq_some {b : Byte} {o : Output} : outputOf b = some o ↔ b.toNat = o.val := by
  unfold outputOf
  split
  · simp [Fin.ext_iff]
  · simp only [reduceCtorEq, false_iff]; omega

theorem setOf_eq_some {b : Byte} {i : SetId} : setOf b = some i ↔ b.toNat = i.val := by
  unfold setOf
  split
  · simp [Fin.ext_iff]
  · simp only [reduceCtorEq, false_iff]; omega

theorem groupOf_eq_some {b : Byte} {g : GroupId} : groupOf b = some g ↔ b.toNat = g.val := by
  unfold groupOf
  split
  · simp [Fin.ext_iff]
  · simp only [reduceCtorEq, false_iff]; omega

theorem inputOf_eq_some {b : Byte} {i : InputId} : inputOf b = some i ↔ b.toNat = i.val := by
  unfold inputOf
  split
  · simp [Fin.ext_iff]
  · simp only [reduceCtorEq, false_iff]; omega

theorem slotOf_eq_some {b : Byte} {i : Slot} : slotOf b = some i ↔ b.toNat = i.val := by
  unfold slotOf
  split
  · simp [Fin.ext_iff]
  · simp only [reduceCtorEq, false_iff]; omega

/-! A choice among few codes refuses a code above them. -/

theorem polarity_code {b : Byte} {p : Polarity} (h : Polarity.ofByte b = some p) : b.toNat < 2 := by
  unfold Polarity.ofByte at h
  split at h
  · omega
  · omega
  · cases h

theorem level_code {b : Byte} {l : Level} (h : Level.ofByte b = some l) : b.toNat < 2 := by
  unfold Level.ofByte at h
  split at h
  · omega
  · omega
  · cases h

theorem releaseMode_code {b : Byte} {m : ReleaseMode} (h : ReleaseMode.ofByte b = some m) : b.toNat < 2 := by
  unfold ReleaseMode.ofByte at h
  split at h
  · omega
  · omega
  · cases h

theorem queuePolicy_code {b : Byte} {q : QueuePolicy} (h : QueuePolicy.ofByte b = some q) : b.toNat < 2 := by
  unfold QueuePolicy.ofByte at h
  split at h
  · omega
  · omega
  · cases h

theorem conflictPolicy_code {b : Byte} {q : ConflictPolicy} (h : ConflictPolicy.ofByte b = some q) : b.toNat < 2 := by
  unfold ConflictPolicy.ofByte at h
  split at h
  · omega
  · omega
  · cases h

theorem tableSel_code {b : Byte} {t : TableSel} (h : TableSel.ofByte b = some t) : b.toNat < 2 := by
  unfold TableSel.ofByte at h
  split at h
  · omega
  · omega
  · cases h

theorem source_code {b : Byte} {x : Source} (h : Source.ofByte b = some x) : b.toNat < 4 := by
  unfold Source.ofByte at h
  split at h
  · omega
  · omega
  · omega
  · omega
  · cases h

theorem isetField_code {b : Byte} {i : Option SetId} (h : isetFieldOf b = some i) : b.toNat < 8 ∨ b = 0xFF := by
  unfold isetFieldOf at h
  split at h
  · exact .inr (by assumption)
  · obtain ⟨set, named, -⟩ := Option.map_eq_some_iff.mp h
    have := setOf_eq_some.mp named
    omega

theorem groupMask_code {b : Byte} {m : BitVec 4} (h : groupMaskOf b = some m) : b.toNat < 16 := by
  unfold groupMaskOf at h
  split at h
  · rename_i clear
    have upper := congrArg BitVec.toNat clear
    simp only [BitVec.extractLsb'_toNat, Nat.shiftRight_eq_div_pow, BitVec.ofNat_eq_ofNat, BitVec.toNat_ofNat,
      Nat.zero_mod] at upper
    omega
  · cases h

/-! ## The decoder's checks -/

/-- What a check of the decoder's answers, where it refuses. -/
def refusal {α : Type} : Except Result α → Option Result
  | .error r => some r
  | .ok _ => none

theorem refusal_eq_some {α : Type} {x : Except Result α} {r : Result} (h : refusal x = some r) : x = .error r := by
  cases x with
  | error r' => cases h; rfl
  | ok a => cases h

/-- Fields that no record of the order can have. -/
theorem refusal_fieldOr {α : Type} {x : Option α} (h : ∀ a, x ≠ some a) : refusal (fieldOr x) = some .badField := by
  cases x with
  | none => rfl
  | some a => exact absurd rfl (h a)

/-- The refusal of a frame of a known kind by the decoder, before any owner sees the order. -/
def frameRefusal (f : OrderFrame) : Option Result :=
  match f.kind.toNat with
  | 0x01 | 0x02 | 0x03 | 0x05 | 0x10 | 0x11 | 0x12 | 0x13 | 0x44 | 0x45 | 0x46 | 0x47 | 0x53 =>
    refusal (decodeEmpty f.body)
  | 0x04 => refusal (decodeSetLink f.body)
  | 0x20 => refusal (decodeSetProfile f.body)
  | 0x21 => refusal (decodeOutput f.body)
  | 0x22 => refusal (decodeManual f.body)
  | 0x30 => refusal (decodeShot f.body)
  | 0x31 => refusal (decodeShots f.body)
  | 0x32 => refusal (decodeCancel f.body)
  | 0x33 => refusal (decodeQueueRead f.body)
  | 0x40 => refusal (decodeSetAngle f.body)
  | 0x41 => refusal (decodeSetCycle f.body)
  | 0x42 => refusal (decodeCamPut f.body)
  | 0x43 => refusal (decodeCamDrop f.body)
  | 0x48 => refusal (decodeCamRead f.body)
  | 0x50 => refusal (decodeSetIset f.body)
  | 0x51 => refusal (decodeIsetRead f.body)
  | 0x52 => refusal (decodeSetConflict f.body)
  | 0x60 => refusal (decodeSetFaultin f.body)
  | 0x61 => refusal (decodeSetRail f.body)
  | 0x62 => refusal (decodeSetTgroup f.body)
  | 0x63 => refusal (decodeTrip f.body)
  | 0x64 | 0x65 => refusal (decodeGroup f.body)
  | _ => none

/-- One order's refusal, for a frame of its kind. -/
theorem order_refuses {α : Type} {k : Byte} {decode : List Byte → Except Result α} {owner : α → State → Answer}
    {f : OrderFrame} {s : State} {r : Result} (taken : s.takes f = true) (kind : f.kind.toNat = k.toNat)
    (refused : refusal (decode f.body) = some r) :
    order k decode owner f.seq f.body s = .next (s.answer f (.code r) .nothing) := by
  have frame : (⟨f.seq, k, f.body⟩ : OrderFrame) = f := by rw [← BitVec.eq_of_toNat_eq kind]
  rw [← frame] at taken
  rw [order_refused taken (refusal_eq_some refused), frame]

/-- A frame that the decoder refuses is answered with the code of the check, and nothing else happens. -/
theorem exec_frameRefusal {f : OrderFrame} {s : State} {r : Result} (taken : s.takes f = true)
    (refused : frameRefusal f = some r) : exec (orderCommand f) s = .next (s.answer f (.code r) .nothing) := by
  rw [← takeFrame_exec]
  unfold takeFrame
  unfold frameRefusal at refused
  split at refused
  all_goals rename_i kind
  rotate_right
  · cases refused
  all_goals
    simp only [kind]
    exact order_refuses taken kind refused

/-! ## Lengths -/

theorem shotFieldsOf_length {body rest : List Byte} {e : ShotFields} (h : shotFieldsOf body = some (e, rest)) :
    body.length = 14 + rest.length := by
  unfold shotFieldsOf at h
  split at h
  · simp only [Option.some.injEq, Prod.mk.injEq] at h
    simp only [List.length_cons, h.2]
    omega
  · cases h

theorem shotEntriesOf_length {n : Nat} {body : List Byte} {es : List ShotFields} (h : shotEntriesOf n body = some es) :
    body.length = 14 * n := by
  induction n generalizing body es with
  | zero =>
    cases body with
    | nil => rfl
    | cons b bs => cases h
  | succ n ih =>
    unfold shotEntriesOf at h
    split at h
    · rename_i e rest first
      obtain ⟨es, others, -⟩ := Option.map_eq_some_iff.mp h
      have := shotFieldsOf_length first
      have := ih others
      omega
    · cases h

theorem decodeShot_length {body : List Byte} (differs : body.length ≠ 14) : decodeShot body = .error .badLength := by
  unfold decodeShot
  split
  · rename_i fields
    exact absurd (shotFieldsOf_length fields) differs
  · rfl

/-- A body of another length than its kind's is refused. -/
theorem frameRefusal_length {f : OrderFrame} {n : Nat} (h : orderBodyLength f.kind = some n)
    (differs : f.body.length ≠ n) : frameRefusal f = some .badLength := by
  unfold orderBodyLength at h
  split at h
  case h_34 kind =>
    cases h
    simp only [frameRefusal, kind, decodeShot_length differs, refusal]
  all_goals rename_i kind
  all_goals cases h
  all_goals simp only [frameRefusal, kind, decodeEmpty, decodeSetLink, decodeSetProfile, decodeOutput, decodeManual,
    decodeCancel, decodeQueueRead, decodeSetAngle, decodeSetCycle, decodeCamPut, decodeCamDrop, decodeCamRead,
    decodeSetIset, decodeIsetRead, decodeSetConflict, decodeSetFaultin, decodeSetRail, decodeSetTgroup, decodeTrip,
    decodeGroup]
  all_goals
    split
    · rename_i body
      exact absurd (congrArg List.length body) differs
    · rfl

theorem decodeShots_count {c : Byte} {rest : List Byte} (h : c.toNat = 0 ∨ 16 < c.toNat) :
    decodeShots (c :: rest) = .error .badField := by
  have out : c.toNat < 1 ∨ 16 < c.toNat := by omega
  simp only [decodeShots, out, if_true]

theorem decodeShots_length {c : Byte} {rest : List Byte} (low : 1 ≤ c.toNat) (high : c.toNat ≤ 16)
    (differs : (c :: rest).length ≠ 1 + 14 * c.toNat) : decodeShots (c :: rest) = .error .badLength := by
  have count : ¬ (c.toNat < 1 ∨ 16 < c.toNat) := by omega
  simp only [decodeShots, count, if_false]
  split
  · rename_i entries
    have := shotEntriesOf_length entries
    simp only [List.length_cons] at differs
    omega
  · rfl

/-! ## Fields out of range -/

section fields

variable {seq kind : Byte}

theorem refusal_output {b : Byte} (out : 16 ≤ b.toNat) : refusal (decodeOutput [b]) = some .badField :=
  refusal_fieldOr fun o e => by have := outputOf_eq_some.mp e; omega

theorem refusal_group {b : Byte} (out : 4 ≤ b.toNat) : refusal (decodeGroup [b]) = some .badField :=
  refusal_fieldOr fun g e => by have := groupOf_eq_some.mp e; omega

theorem frameRefusal_one {b : Byte}
    (h : kind = 0x21 ∧ 16 ≤ b.toNat ∨ kind = 0x51 ∧ 8 ≤ b.toNat ∨ kind = 0x52 ∧ 2 ≤ b.toNat ∨
      kind = 0x63 ∧ 16 ≤ b.toNat ∨ kind = 0x64 ∧ 4 ≤ b.toNat ∨ kind = 0x65 ∧ 4 ≤ b.toNat) :
    frameRefusal ⟨seq, kind, [b]⟩ = some .badField := by
  rcases h with ⟨rfl, out⟩ | ⟨rfl, out⟩ | ⟨rfl, out⟩ | ⟨rfl, out⟩ | ⟨rfl, out⟩ | ⟨rfl, out⟩
  · exact refusal_output out
  · exact refusal_fieldOr fun i e => by have := setOf_eq_some.mp e; omega
  · exact refusal_fieldOr fun p e => by have := conflictPolicy_code e; omega
  · exact refusal_fieldOr fun m e => by have := groupMask_code e; omega
  · exact refusal_group out
  · exact refusal_group out

theorem frameRefusal_two {a b : Byte}
    (h : kind = 0x22 ∧ (16 ≤ a.toNat ∨ 2 ≤ b.toNat) ∨ kind = 0x33 ∧ (16 ≤ a.toNat ∨ 48 ≤ b.toNat) ∨
      kind = 0x48 ∧ 2 ≤ a.toNat) : frameRefusal ⟨seq, kind, [a, b]⟩ = some .badField := by
  rcases h with ⟨rfl, out⟩ | ⟨rfl, out⟩ | ⟨rfl, out⟩
  · refine refusal_fieldOr fun x e => ?_
    obtain ⟨o, output, e⟩ := Option.bind_eq_some_iff.mp e
    have := outputOf_eq_some.mp output
    split at e
    · omega
    · omega
    · cases e
  · refine refusal_fieldOr fun x e => ?_
    obtain ⟨o, output, e⟩ := Option.bind_eq_some_iff.mp e
    have := outputOf_eq_some.mp output
    split at e
    · omega
    · cases e
  · refine refusal_fieldOr fun x e => ?_
    obtain ⟨sel, code, -⟩ := Option.bind_eq_some_iff.mp e
    have := tableSel_code code
    omega

theorem frameRefusal_three {a b c : Byte} (h : 4 ≤ a.toNat ∨ c = 0 ∧ 1 ≤ b.toNat ∧ b.toNat ≤ 9) :
    frameRefusal ⟨seq, 0x04, [a, b, c]⟩ = some .badField := by
  refine refusal_fieldOr fun x e => ?_
  obtain ⟨baud, code, e⟩ := Option.bind_eq_some_iff.mp e
  have rate : a.toNat < 4 := by
    unfold Baud.ofByte at code
    split at code
    · omega
    · omega
    · omega
    · omega
    · cases code
  obtain ⟨rfl, low, high⟩ : c = 0 ∧ 1 ≤ b.toNat ∧ b.toNat ≤ 9 := h.resolve_left (by omega)
  have timeout := le16_toNat b 0
  simp only [BitVec.ofNat_eq_ofNat, BitVec.toNat_ofNat, Nat.zero_mod, Nat.zero_mul, Nat.zero_add] at timeout
  dsimp only at e
  split at e
  · rename_i fits
    simp only [BitVec.ofNat_eq_ofNat, timeout] at fits
    omega
  · cases e

theorem frameRefusal_four {a b c d : Byte}
    (h : kind = 0x32 ∧ (16 ≤ a.toNat ∧ a ≠ 0xFF ∨ 2 ≤ b.toNat) ∨
      kind = 0x50 ∧ (8 ≤ a.toNat ∨ b.toNat = 0 ∨ 16 < b.toNat) ∨
      kind = 0x60 ∧ (4 ≤ a.toNat ∨ 2 ≤ b.toNat ∨ c.toNat = 0 ∨ d.toNat = 0)) :
    frameRefusal ⟨seq, kind, [a, b, c, d]⟩ = some .badField := by
  rcases h with ⟨rfl, out⟩ | ⟨rfl, out⟩ | ⟨rfl, out⟩
  · refine refusal_fieldOr fun x e => ?_
    have spare (clear : b.extractLsb' 1 7 = 0) : b.toNat < 2 := by
      have upper := congrArg BitVec.toNat clear
      simp only [BitVec.extractLsb'_toNat, Nat.shiftRight_eq_div_pow, BitVec.ofNat_eq_ofNat, BitVec.toNat_ofNat,
        Nat.zero_mod] at upper
      omega
    dsimp only at e
    split at e
    · rename_i all
      obtain ⟨os, -, e⟩ := Option.bind_eq_some_iff.mp e
      split at e
      · rename_i clear
        have := spare clear
        exact (out.resolve_right (by omega)).2 all
      · cases e
    · obtain ⟨os, outputs, e⟩ := Option.bind_eq_some_iff.mp e
      obtain ⟨o, output, -⟩ := Option.map_eq_some_iff.mp outputs
      have := outputOf_eq_some.mp output
      split at e
      · rename_i clear
        have := spare clear
        omega
      · cases e
  · refine refusal_fieldOr fun x e => ?_
    obtain ⟨i, set, e⟩ := Option.bind_eq_some_iff.mp e
    have := setOf_eq_some.mp set
    split at e
    · omega
    · cases e
  · refine refusal_fieldOr fun x e => ?_
    obtain ⟨i, input, e⟩ := Option.bind_eq_some_iff.mp e
    obtain ⟨level, code, e⟩ := Option.bind_eq_some_iff.mp e
    have := inputOf_eq_some.mp input
    have := level_code code
    split at e
    · omega
    · cases e

theorem frameRefusal_setProfile {o src b0 b1 duty m0 m1 x0 x1 set groups polarity : Byte}
    (h : 16 ≤ o.toNat ∨ 4 ≤ src.toNat ∨ 10000 < (b1 ++ b0).toNat ∨ duty.toNat = 0 ∨ 100 < duty.toNat ∨
      60000 < (x1 ++ x0).toNat ∨ (8 ≤ set.toNat ∧ set ≠ 0xFF) ∨ 16 ≤ groups.toNat ∨ 2 ≤ polarity.toNat) :
    frameRefusal ⟨seq, 0x20, [o, src, b0, b1, duty, m0, m1, x0, x1, set, groups, polarity]⟩ = some .badField := by
  refine refusal_fieldOr fun x e => ?_
  obtain ⟨out, output, e⟩ := Option.bind_eq_some_iff.mp e
  obtain ⟨source, sourceCode, e⟩ := Option.bind_eq_some_iff.mp e
  obtain ⟨iset, setCode, e⟩ := Option.bind_eq_some_iff.mp e
  obtain ⟨mask, maskCode, e⟩ := Option.bind_eq_some_iff.mp e
  obtain ⟨pol, polCode, e⟩ := Option.bind_eq_some_iff.mp e
  have := outputOf_eq_some.mp output
  have := source_code sourceCode
  have setField := isetField_code setCode
  have := groupMask_code maskCode
  have := polarity_code polCode
  split at e
  · rename_i ranges
    simp only [le16] at ranges
    have listed : ¬ (8 ≤ set.toNat ∧ set ≠ 0xFF) := fun ⟨high, other⟩ => setField.elim (by omega) other
    simp only [listed, false_or] at h
    omega
  · cases e

theorem frameRefusal_setAngle {l0 l1 tolerance s0 s1 : Byte}
    (h : (1 ≤ (l1 ++ l0).toNat ∧ (l1 ++ l0).toNat ≤ 7) ∨ 16 ≤ tolerance.toNat) :
    frameRefusal ⟨seq, 0x40, [l0, l1, tolerance, s0, s1]⟩ = some .badField := by
  have out : ¬ (((le16 l0 l1).toNat = 0 ∨ 8 ≤ (le16 l0 l1).toNat) ∧ tolerance.toNat ≤ 15) := by
    unfold le16
    omega
  exact congrArg refusal (if_neg out)

theorem frameRefusal_camPut {o n0 n1 f0 f1 divisor phase : Byte}
    (h : 16 ≤ o.toNat ∨ divisor.toNat = 0 ∨ 8 < divisor.toNat ∨ divisor.toNat ≤ phase.toNat) :
    frameRefusal ⟨seq, 0x42, [o, n0, n1, f0, f1, divisor, phase]⟩ = some .badField := by
  refine refusal_fieldOr fun x e => ?_
  obtain ⟨out, output, e⟩ := Option.bind_eq_some_iff.mp e
  have := outputOf_eq_some.mp output
  split at e
  · omega
  · cases e

theorem frameRefusal_setRail {enable l0 l1 h0 h1 depth : Byte}
    (h : 2 ≤ enable.toNat ∨ 600 < (l1 ++ l0).toNat ∨ 600 < (h1 ++ h0).toNat ∨ depth.toNat = 0) :
    frameRefusal ⟨seq, 0x61, [enable, l0, l1, h0, h1, depth]⟩ = some .badField := by
  have out : ¬ (enable.toNat ≤ 1 ∧ (le16 l0 l1).toNat ≤ 600 ∧ (le16 h0 h1).toNat ≤ 600 ∧ 1 ≤ depth.toNat) := by
    unfold le16
    omega
  exact congrArg refusal (if_neg out)

theorem frameRefusal_setTgroup {group sources release d0 d1 policy : Byte}
    (h : 4 ≤ group.toNat ∨ sources.getLsbD 7 = true ∨ 2 ≤ release.toNat ∨ 2 ≤ policy.toNat) :
    frameRefusal ⟨seq, 0x62, [group, sources, release, d0, d1, policy]⟩ = some .badField := by
  refine refusal_fieldOr fun x e => ?_
  obtain ⟨g, named, e⟩ := Option.bind_eq_some_iff.mp e
  obtain ⟨m, mode, e⟩ := Option.bind_eq_some_iff.mp e
  obtain ⟨q, purge, e⟩ := Option.bind_eq_some_iff.mp e
  have := groupOf_eq_some.mp named
  have := releaseMode_code mode
  have := queuePolicy_code purge
  split at e
  · cases e
  · rename_i host
    rcases h with h | h | h | h
    · omega
    · exact host h
    · omega
    · omega

end fields

/-! ## Unknown kinds -/

theorem kindKnown_eq (k : Byte) : kindKnown k = knownKinds.contains k := by
  revert k
  decide +kernel

/-- Settles O11: each clause is a refusal of the decoder's. -/
theorem decoderRefuses : Obligations.DecoderRefuses := by
  refine ⟨⟨fun f s n taken length differs => exec_frameRefusal taken (frameRefusal_length length differs),
    fun seq body s taken => ⟨?_, ?_, ?_⟩⟩, fun s f taken => ⟨?_, ?_, ?_, ?_⟩, ?_, fun s f taken => ?_⟩
  · rintro rfl
    exact exec_frameRefusal taken rfl
  · rintro c rest rfl count
    exact exec_frameRefusal taken (congrArg refusal (decodeShots_count count))
  · rintro c rest rfl low high differs
    exact exec_frameRefusal taken (congrArg refusal (decodeShots_length low high differs))
  · obtain ⟨seq, kind, body⟩ := f
    rintro b rfl h
    exact exec_frameRefusal taken (frameRefusal_one h)
  · obtain ⟨seq, kind, body⟩ := f
    rintro a b rfl h
    exact exec_frameRefusal taken (frameRefusal_two h)
  · obtain ⟨seq, kind, body⟩ := f
    rintro a b c d rfl h
    exact exec_frameRefusal taken (frameRefusal_four h)
  · obtain ⟨seq, kind, body⟩ := f
    rintro a b c rfl rfl h
    exact exec_frameRefusal taken (frameRefusal_three h)
  · intro seq kind body s unknown taken
    have k : kindKnown kind = false := by rw [kindKnown_eq, unknown]
    simp only [exec, execUnknownOrder, k, Bool.false_eq_true, if_false]
    exact order_refused taken rfl
  · obtain ⟨seq, kind, body⟩ := f
    refine ⟨?_, ?_, ?_, ?_, ?_⟩
    · rintro o src b0 b1 duty m0 m1 x0 x1 set groups polarity rfl rfl h
      exact exec_frameRefusal taken (frameRefusal_setProfile h)
    · rintro l0 l1 tolerance s0 s1 rfl rfl h
      exact exec_frameRefusal taken (frameRefusal_setAngle h)
    · rintro o n0 n1 f0 f1 divisor phase rfl rfl h
      exact exec_frameRefusal taken (frameRefusal_camPut h)
    · rintro enable l0 l1 h0 h1 depth rfl rfl h
      exact exec_frameRefusal taken (frameRefusal_setRail h)
    · rintro group sources release d0 d1 policy rfl rfl h
      exact exec_frameRefusal taken (frameRefusal_setTgroup h)

end Sys2Proof.Laws.Refusals
end

section
/-! SUPPORT. What a body says is what its fields were: the codes, the multi-byte fields and each order's layout are read
back as they were written. -/

namespace Sys2Proof.Laws.Bodies

open Sys2Proof Sys2Proof.Machine Sys2Proof.Laws.Refusals

/-! ## Multi-byte fields -/

theorem append_toNat {n : Nat} (a : BitVec n) (b : Byte) : (a ++ b).toNat = a.toNat * 256 + b.toNat := by
  have small : b.toNat < 2 ^ 8 := b.isLt
  rw [BitVec.toNat_append, ← Nat.shiftLeft_add_eq_or_of_lt small, Nat.shiftLeft_eq]

theorem le16_bytes16 (w : Word16) : le16 (w.extractLsb' 0 8) (w.extractLsb' 8 8) = w := by
  apply BitVec.eq_of_toNat_eq
  simp only [le16_toNat, BitVec.extractLsb'_toNat, Nat.shiftRight_eq_div_pow]
  omega

theorem le32_bytes32 (w : BitVec 32) :
    le32 (w.extractLsb' 0 8) (w.extractLsb' 8 8) (w.extractLsb' 16 8) (w.extractLsb' 24 8) = w := by
  apply BitVec.eq_of_toNat_eq
  simp only [le32, append_toNat, BitVec.extractLsb'_toNat, Nat.shiftRight_eq_div_pow]
  omega

theorem le16_nat16 {n : Nat} (h : n ≤ 65535) :
    (le16 ((BitVec.ofNat 16 n).extractLsb' 0 8) ((BitVec.ofNat 16 n).extractLsb' 8 8)).toNat = n := by
  rw [le16_bytes16, BitVec.toNat_ofNat]
  omega

theorem le32_nat32 {n : Nat} (h : n < 2 ^ 32) :
    (le32 ((BitVec.ofNat 32 n).extractLsb' 0 8) ((BitVec.ofNat 32 n).extractLsb' 8 8)
      ((BitVec.ofNat 32 n).extractLsb' 16 8) ((BitVec.ofNat 32 n).extractLsb' 24 8)).toNat = n := by
  rw [le32_bytes32, BitVec.toNat_ofNat, Nat.mod_eq_of_lt h]

theorem le16_digits {n : Nat} (h : n ≤ 65535) : le16 (BitVec.ofNat 8 (n % 256)) (BitVec.ofNat 8 (n / 256)) = BitVec.ofNat 16 n := by
  apply BitVec.eq_of_toNat_eq
  simp only [le16_toNat, BitVec.toNat_ofNat]
  omega

theorem byteOf_toNat {n : Nat} (h : n < 256) : (byteOf n).toNat = n := by
  simp only [byteOf, BitVec.toNat_ofNat]
  omega

/-! ## Codes -/

theorem outputOf_byteOf (o : Output) : outputOf (byteOf o.val) = some o :=
  outputOf_eq_some.mpr (byteOf_toNat (by omega))

theorem setOf_byteOf (i : SetId) : setOf (byteOf i.val) = some i := setOf_eq_some.mpr (byteOf_toNat (by omega))

theorem groupOf_byteOf (g : GroupId) : groupOf (byteOf g.val) = some g := groupOf_eq_some.mpr (byteOf_toNat (by omega))

theorem inputOf_byteOf (i : InputId) : inputOf (byteOf i.val) = some i := inputOf_eq_some.mpr (byteOf_toNat (by omega))

theorem source_byte (x : Source) : Source.ofByte x.byte = some x := by cases x <;> rfl

theorem polarity_byte (x : Polarity) : Polarity.ofByte x.byte = some x := by cases x <;> rfl

theorem level_byte (x : Level) : Level.ofByte x.byte = some x := by cases x <;> rfl

theorem releaseMode_byte (x : ReleaseMode) : ReleaseMode.ofByte x.byte = some x := by cases x <;> rfl

theorem queuePolicy_byte (x : QueuePolicy) : QueuePolicy.ofByte x.byte = some x := by cases x <;> rfl

theorem isetField_byte (i : Option SetId) : isetFieldOf (isetByte i) = some i := by
  revert i
  decide

theorem groupMask_setWidth (m : BitVec 4) : groupMaskOf (m.setWidth 8) = some m := by
  revert m
  decide

theorem groupMask_append (m : BitVec 4) : groupMaskOf (0#4 ++ m) = some m := by
  revert m
  decide

/-! ## Orders that carry a record -/

theorem decode_setProfileBody (o : Output) (p : Profile) (boost : p.boost ≤ 10000) (low : 1 ≤ p.duty)
    (high : p.duty ≤ 100) (minOff : p.minOff ≤ 65535) (maxOn : p.maxOn ≤ 60000) :
    decodeSetProfile (setProfileBody o p) = .ok (o, p) := by
  have duty : (byteOf p.duty).toNat = p.duty := byteOf_toNat (by omega)
  simp only [setProfileBody, nat16, bytes16, List.cons_append, List.nil_append, decodeSetProfile, outputOf_byteOf,
    source_byte, isetField_byte, groupMask_setWidth, polarity_byte, duty, le16_nat16 minOff,
    le16_nat16 (show p.boost ≤ 65535 by omega), le16_nat16 (show p.maxOn ≤ 65535 by omega), Option.bind_eq_bind,
    Option.bind_some, boost, low, high, maxOn, and_self, if_true, fieldOr]

theorem shotFieldsOf_append (e : ShotFields) (rest : List Byte) (duration : e.duration < 2 ^ 32)
    (grace : e.grace < 65536) : shotFieldsOf (shotBody e ++ rest) = some (e, rest) := by
  simp only [shotBody, nat16, nat32, bytes16, bytes32, List.cons_append, List.nil_append, shotFieldsOf,
    le16_bytes16, le32_bytes32, BitVec.toNat_ofNat, Nat.mod_eq_of_lt duration, Nat.mod_eq_of_lt grace]

theorem decode_shotBody (e : ShotFields) (duration : e.duration < 2 ^ 32) (grace : e.grace < 65536) :
    decodeShot (shotBody e) = .ok e := by
  have read := shotFieldsOf_append e [] duration grace
  rw [List.append_nil] at read
  simp only [decodeShot, read]

theorem shotEntriesOf_flatMap (es : List ShotFields) (fits : ∀ e ∈ es, e.duration < 2 ^ 32 ∧ e.grace < 65536) :
    shotEntriesOf es.length (es.flatMap shotBody) = some es := by
  induction es with
  | nil => rfl
  | cons e es ih =>
    obtain ⟨duration, grace⟩ := fits e (List.mem_cons_self ..)
    simp only [List.flatMap_cons, List.length_cons, shotEntriesOf, shotFieldsOf_append e _ duration grace,
      ih fun x mem => fits x (List.mem_cons_of_mem _ mem), Option.map_some]

theorem decode_shots (es : List ShotFields) (low : 1 ≤ es.length) (high : es.length ≤ 16)
    (fits : ∀ e ∈ es, e.duration < 2 ^ 32 ∧ e.grace < 65536) :
    decodeShots (byteOf es.length :: es.flatMap shotBody) = .ok es := by
  have count : (byteOf es.length).toNat = es.length := byteOf_toNat (by omega)
  have inside : ¬ (es.length < 1 ∨ 16 < es.length) := by omega
  simp only [decodeShots, count, inside, if_false, shotEntriesOf_flatMap es fits]

theorem decode_setAngleBody (a : AngleFields) (length : a.cycleLength = 0 ∨ 8 ≤ a.cycleLength)
    (high : a.cycleLength ≤ 65535) (tolerance : a.tolerance ≤ 15) (stall : a.stallTimeout ≤ 65535) :
    decodeSetAngle (setAngleBody a) = .ok a := by
  have single : (byteOf a.tolerance).toNat = a.tolerance := byteOf_toNat (by omega)
  simp only [setAngleBody, nat16, bytes16, List.cons_append, List.nil_append, decodeSetAngle, single, le16_nat16 high,
    le16_nat16 stall, length, tolerance, and_self, if_true]

theorem decode_camPutBody (w : Window) (on : w.onAngle ≤ 65535) (off : w.offAngle ≤ 65535) (low : 1 ≤ w.divisor)
    (high : w.divisor ≤ 8) (phase : w.phase < w.divisor) : decodeCamPut (camPutBody w) = .ok w := by
  have divisorByte : (byteOf w.divisor).toNat = w.divisor := byteOf_toNat (by omega)
  have phaseByte : (byteOf w.phase).toNat = w.phase := byteOf_toNat (by omega)
  simp only [camPutBody, nat16, bytes16, List.cons_append, List.nil_append, decodeCamPut, outputOf_byteOf, divisorByte,
    phaseByte, le16_nat16 on, le16_nat16 off, Option.bind_eq_bind, Option.bind_some, low, high, phase, and_self, if_true,
    fieldOr]

theorem decode_setIsetBody (f : IsetFields) (low : 1 ≤ f.capacity) (high : f.capacity ≤ 16)
    (limit : f.deferLimit ≤ 65535) : decodeSetIset (setIsetBody f) = .ok f := by
  have capacity : (byteOf f.capacity).toNat = f.capacity := byteOf_toNat (by omega)
  simp only [setIsetBody, nat16, bytes16, decodeSetIset, setOf_byteOf, capacity, le16_nat16 limit, Option.bind_eq_bind,
    Option.bind_some, low, high, and_self, if_true, fieldOr]

theorem decode_setFaultinBody (f : FaultinFields) (period : 1 ≤ f.period) (periodHigh : f.period ≤ 255)
    (depth : 1 ≤ f.depth) (depthHigh : f.depth ≤ 255) : decodeSetFaultin (setFaultinBody f) = .ok f := by
  have periodByte : (byteOf f.period).toNat = f.period := byteOf_toNat (by omega)
  have depthByte : (byteOf f.depth).toNat = f.depth := byteOf_toNat (by omega)
  simp only [setFaultinBody, decodeSetFaultin, inputOf_byteOf, level_byte, periodByte, depthByte, Option.bind_eq_bind,
    Option.bind_some, period, depth, and_self, if_true, fieldOr]

theorem decode_setRailBody (f : RailFields) (low : f.low ≤ 600) (high : f.high ≤ 600) (depth : 1 ≤ f.depth)
    (depthHigh : f.depth ≤ 255) : decodeSetRail (setRailBody f) = .ok f := by
  obtain ⟨enable, l, h, d⟩ := f
  have depthByte : (byteOf d).toNat = d := byteOf_toNat (by dsimp only at depthHigh; omega)
  simp only [setRailBody, nat16, bytes16, List.cons_append, List.nil_append, decodeSetRail, depthByte,
    le16_nat16 (show l ≤ 65535 from low.trans (by decide)), le16_nat16 (show h ≤ 65535 from high.trans (by decide)), low,
    high, depth, and_true]
  cases enable <;> rfl

theorem decode_setTgroupBody (f : TgroupFields) (host : f.sources.getLsbD 7 = false) (delay : f.restoreDelay ≤ 65535) :
    decodeSetTgroup (setTgroupBody f) = .ok f := by
  simp only [setTgroupBody, nat16, bytes16, List.cons_append, List.nil_append, decodeSetTgroup, groupOf_byteOf,
    releaseMode_byte, queuePolicy_byte, le16_nat16 delay, host, Bool.false_eq_true, if_false, Option.bind_eq_bind,
    Option.bind_some, fieldOr]

/-! ## The others -/

theorem decode_setLink {n : Nat} (timeout : n = 0 ∨ 10 ≤ n) (high : n ≤ 65535) {b : Byte} {baud : Baud}
    (code : Baud.ofByte b = some baud) :
    decodeSetLink [b, BitVec.ofNat 8 (n % 256), BitVec.ofNat 8 (n / 256)] = .ok (baud, n) := by
  have value : (BitVec.ofNat 16 n).toNat = n := by
    rw [BitVec.toNat_ofNat]
    omega
  simp only [decodeSetLink, code, Option.bind_eq_bind, Option.bind_some, le16_digits high, value, timeout, if_true,
    fieldOr]

theorem decode_cancel (o : Output) (active : Bool) {tag : Nat} (high : tag ≤ 65535) :
    decodeCancel [byteOf o.val, if active then 1 else 0, BitVec.ofNat 8 (tag % 256), BitVec.ofNat 8 (tag / 256)] =
      .ok ⟨[o], BitVec.ofNat 16 tag, active⟩ := by
  have single : byteOf o.val ≠ 0xFF := fun all => by
    have value := byteOf_toNat (show o.val < 256 by omega)
    rw [all] at value
    have : (0xFF : Byte).toNat = 255 := rfl
    omega
  simp only [decodeCancel, single, if_false, outputOf_byteOf, Option.map_some, Option.bind_eq_bind, Option.bind_some,
    le16_digits high]
  cases active <;> rfl

theorem decode_queueRead (o : Output) {i : Nat} (high : i ≤ 47) : decodeQueueRead [byteOf o.val, byteOf i] = .ok (o, i) := by
  simp only [decodeQueueRead, outputOf_byteOf, byteOf_toNat (show i < 256 by omega), Option.bind_eq_bind,
    Option.bind_some, high, if_true, fieldOr]

theorem decode_manual (o : Output) (on : Bool) : decodeManual [byteOf o.val, if on then 1 else 0] = .ok (o, on) := by
  simp only [decodeManual, outputOf_byteOf, Option.bind_eq_bind, Option.bind_some]
  cases on <;> rfl

/-- Settles O12: each body is read back field by field. -/
theorem bodiesDecode : Obligations.BodiesDecode := by
  refine ⟨decode_setProfileBody, decode_shotBody, decode_shots, decode_setAngleBody, decode_camPutBody,
    decode_setIsetBody, decode_setFaultinBody, decode_setRailBody, decode_setTgroupBody, ?_⟩
  refine ⟨fun t timeout high => ⟨decode_setLink timeout high rfl, decode_setLink timeout high rfl,
    decode_setLink timeout high rfl, decode_setLink timeout high rfl⟩,
    fun o => ⟨congrArg fieldOr (outputOf_byteOf o), decode_manual o false, decode_manual o true,
      fun tag high => ⟨decode_cancel o false high, decode_cancel o true high⟩, fun i high => decode_queueRead o high⟩,
    fun x => ⟨rfl, rfl, rfl⟩, fun i => congrArg fieldOr (setOf_byteOf i), fun g => congrArg fieldOr (groupOf_byteOf g),
    fun m => congrArg fieldOr (groupMask_append m), rfl, rfl⟩

end Sys2Proof.Laws.Bodies
end

section
/-! SUPPORT. The framer: a scan taken byte by byte, the frame found in its own bytes, and what each event of the framer
leaves. -/

namespace Sys2Proof.Laws.Framer

open Sys2Proof Sys2Proof.Machine Sys2Proof.Laws.Refusals Sys2Proof.Laws.Bodies

/-! ## A candidate's judgement -/

theorem judgeCandidate_rest {bytes after : List Byte} {f : OrderFrame} (h : judgeCandidate bytes = .complete f after) :
    after.length ≤ bytes.length := by
  unfold judgeCandidate at h
  split at h
  · cases h
  · rename_i len rest
    split at h
    · cases h
    · split at h
      · cases h
      · split at h
        · rename_i e
          split at h
          · cases h
            have := congrArg List.length e
            simp only [List.length_drop, List.length_cons] at this ⊢
            omega
          · cases h
        · cases h

theorem judgeCandidate_out {len : Byte} (rest : List Byte) (out : len.toNat < 2 ∨ 242 < len.toNat) :
    judgeCandidate (len :: rest) = .discarded := by
  simp only [judgeCandidate, out, if_true]

theorem judgeCandidate_short {len : Byte} {rest : List Byte} (low : 2 ≤ len.toNat) (high : len.toNat ≤ 242)
    (short : rest.length < len.toNat + 2) : judgeCandidate (len :: rest) = .incomplete := by
  have inside : ¬ (len.toNat < 2 ∨ 242 < len.toNat) := by omega
  simp only [judgeCandidate, inside, short, if_true, if_false]

/-- With all its bytes there, the CRC decides. -/
theorem judgeCandidate_full {len c0 c1 seq kind : Byte} {body after : List Byte} (high : len.toNat ≤ 242)
    (counted : (seq :: kind :: body).length = len.toNat) :
    judgeCandidate (len :: (seq :: kind :: body ++ c0 :: c1 :: after)) =
      if crc16 (len :: seq :: kind :: body) = le16 c0 c1 then .complete ⟨seq, kind, body⟩ after else .discarded := by
  have inside : ¬ (len.toNat < 2 ∨ 242 < len.toNat) := by
    simp only [List.length_cons] at counted
    omega
  have there : ¬ (seq :: kind :: body ++ c0 :: c1 :: after).length < len.toNat + 2 := by
    simp only [List.length_append, counted, List.length_cons]
    omega
  unfold judgeCandidate
  dsimp only
  rw [if_neg inside, if_neg there, ← counted, List.take_left, List.drop_left]

/-! ## A scan, byte by byte -/

/-- Any bound on the number of bytes will do. -/
theorem scanBytes_bound (ended : Bool) (n : Nat) : ∀ (m : Nat) (bytes : List Byte), bytes.length ≤ n → bytes.length ≤ m →
    scanBytes ended n bytes = scanBytes ended m bytes := by
  induction n with
  | zero =>
    intro m bytes none _
    obtain rfl : bytes = [] := List.length_eq_zero_iff.mp (Nat.le_zero.mp none)
    cases m <;> rfl
  | succ n ih =>
    intro m bytes fits fitsToo
    cases bytes with
    | nil => cases m <;> rfl
    | cons b rest =>
      cases m with
      | zero => cases fitsToo
      | succ m =>
        have fits : rest.length ≤ n := Nat.le_of_succ_le_succ fits
        have fitsToo : rest.length ≤ m := Nat.le_of_succ_le_succ fitsToo
        unfold scanBytes
        rw [ih m rest fits fitsToo]
        cases judged : judgeCandidate rest with
        | incomplete => rfl
        | discarded => rfl
        | complete f after =>
          have le := judgeCandidate_rest judged
          dsimp only
          rw [ih m after (le.trans fits) (le.trans fitsToo)]

theorem scan_nil (ended : Bool) : scan ended [] = ([], []) := rfl

theorem scan_cons (ended : Bool) (b : Byte) (rest : List Byte) :
    scan ended (b :: rest) =
      if b ≠ startByte then scan ended rest
      else
        match judgeCandidate rest with
        | .incomplete => if ended then scan ended rest else ([], b :: rest)
        | .discarded => scan ended rest
        | .complete f after => (f :: (scan ended after).1, (scan ended after).2) := by
  unfold scan
  rw [List.length_cons, scanBytes]
  cases judged : judgeCandidate rest with
  | incomplete => rfl
  | discarded => rfl
  | complete f after =>
    dsimp only
    rw [scanBytes_bound ended rest.length after.length after (judgeCandidate_rest judged) (Nat.le_refl _)]

section scans

variable {ended : Bool} {len : Byte} {rest : List Byte}

theorem scan_drops {b : Byte} (other : b ≠ 0x5A) : scan ended (b :: rest) = scan ended rest := by
  rw [scan_cons, if_pos (show b ≠ startByte from other)]

theorem scan_discards (judged : judgeCandidate rest = .discarded) : scan ended (0x5A :: rest) = scan ended rest := by
  rw [scan_cons, judged, if_neg (by decide)]

theorem scan_keeps (judged : judgeCandidate rest = .incomplete) : scan false (0x5A :: rest) = ([], 0x5A :: rest) := by
  rw [scan_cons, judged, if_neg (by decide)]
  rfl

theorem scan_ends (judged : judgeCandidate rest = .incomplete) : scan true (0x5A :: rest) = scan true rest := by
  rw [scan_cons, judged, if_neg (by decide)]
  rfl

theorem scan_no_start (none : ∀ b ∈ rest, b ≠ 0x5A) : scan ended rest = ([], []) := by
  induction rest with
  | nil => rfl
  | cons b rest ih =>
    rw [scan_drops (none b (List.mem_cons_self ..)), ih fun x mem => none x (List.mem_cons_of_mem _ mem)]

/-- The end of the bytes leaves no candidate. -/
theorem scan_true_left (bytes : List Byte) : (scan true bytes).2 = [] := by
  generalize bound : bytes.length = n
  induction n using Nat.strongRecOn generalizing bytes with
  | ind n ih =>
    cases bytes with
    | nil => rfl
    | cons b rest =>
      have shorter : rest.length < n := by rw [← bound]; exact Nat.lt_succ_self _
      have left := ih _ shorter rest rfl
      rw [scan_cons]
      split
      · exact left
      · cases judged : judgeCandidate rest with
        | incomplete => exact left
        | discarded => exact left
        | complete f after =>
          exact ih after.length ((judgeCandidate_rest judged).trans_lt shorter) after rfl

/-- A frame is found in its own bytes, and the scan goes on behind it. -/
theorem scan_frame {f : OrderFrame} (fits : f.wellFormed = true) :
    scan ended (f.bytes ++ rest) = (f :: (scan ended rest).1, (scan ended rest).2) := by
  obtain ⟨seq, kind, body⟩ := f
  have short : body.length ≤ 240 := of_decide_eq_true fits
  have value : (byteOf (body.length + 2)).toNat = body.length + 2 := byteOf_toNat (by omega)
  have judged : judgeCandidate (byteOf (body.length + 2) :: (seq :: kind :: body ++
      (OrderFrame.crc ⟨seq, kind, body⟩).extractLsb' 0 8 :: (OrderFrame.crc ⟨seq, kind, body⟩).extractLsb' 8 8 :: rest)) =
      .complete ⟨seq, kind, body⟩ rest := by
    rw [judgeCandidate_full (by omega) (by rw [value]; rfl), le16_bytes16]
    exact if_pos rfl
  have laid : OrderFrame.bytes ⟨seq, kind, body⟩ ++ rest = 0x5A :: byteOf (body.length + 2) :: (seq :: kind :: body ++
      (OrderFrame.crc ⟨seq, kind, body⟩).extractLsb' 0 8 :: (OrderFrame.crc ⟨seq, kind, body⟩).extractLsb' 8 8 ::
        rest) := by
    simp only [OrderFrame.bytes, OrderFrame.span, startByte, bytes16, List.cons_append, List.append_assoc,
      List.nil_append]
  rw [laid, scan_cons, judged, if_neg (by decide)]

end scans

/-! ## The command a frame stands for -/

theorem orderCommand_unknown {seq kind : Byte} {body : List Byte} (unknown : knownKinds.contains kind = false) :
    orderCommand ⟨seq, kind, body⟩ = .unknownOrder seq kind body := by
  have coded : (knownKinds.map BitVec.toNat).contains kind.toNat = false := by
    revert unknown
    revert kind
    decide +kernel
  unfold orderCommand
  split
  case h_36 => rfl
  all_goals
    rename_i code
    dsimp only at code
    rw [code] at coded
    cases coded

theorem orderCommand_frame {i : Instr} {f : OrderFrame} (fits : i.wellFormed = true) (h : commandFrame i = some f) :
    orderCommand f = i ∧ f.wellFormed = true := by
  cases i with
  | unknownOrder seq kind body =>
    cases h
    have both := Bool.and_eq_true_iff.mp fits
    exact ⟨orderCommand_unknown (by simpa using both.2), both.1⟩
  | _ => cases h <;> exact ⟨rfl, fits⟩

/-- Settles O13: a frame's bytes hold the frame and nothing behind it. -/
theorem framesAreFound : Obligations.FramesAreFound := by
  intro i f fits h
  obtain ⟨command, frameFits⟩ := orderCommand_frame fits h
  have found := scan_frame (ended := false) (rest := []) frameFits
  rw [List.append_nil] at found
  exact ⟨found, command⟩

/-! ## The framer's events -/

section events

variable {s : State}

/-- A scan that finds no frame leaves its candidate. -/
theorem takeScan_quiet (s : State) (held : List Byte) :
    s.takeScan ([], held) =
      { s with link := { s.link with
        candidate := held, gapTimer := if held.isEmpty then none else some (after s.now Config.gapLimit) } } := rfl

theorem takeScan_hunt (candidate : s.link.candidate = []) (gap : s.link.gapTimer = none) : s.takeScan ([], []) = s := by
  show { s with link := { s.link with candidate := [], gapTimer := none } } = s
  rw [← candidate, ← gap]

theorem takeScan_frames (s : State) {frames : List OrderFrame} (held : List Byte) (some' : frames ≠ []) :
    s.takeScan (frames, held) =
      (frames.foldl State.frameArrival
        { s with link := { s.link with
          candidate := held, gapTimer := if held.isEmpty then none else some (after s.now Config.gapLimit) } }).settle := by
  simp only [State.takeScan, State.arrive, List.isEmpty_iff, some', if_false]

theorem takeScan_eq (s : State) (found : List OrderFrame × List Byte) :
    s.takeScan found =
      let s1 : State := { s with link := { s.link with
        candidate := found.2, gapTimer := if found.2.isEmpty then none else some (after s.now Config.gapLimit) } }
      if found.1 = [] then s1 else (found.1.foldl State.frameArrival s1).settle := by
  simp only [State.takeScan, State.arrive, List.isEmpty_iff]

/-- An admission leaves the framer alone. -/
theorem admission_framer (s : State) (f : OrderFrame) :
    (s.admission f).link.candidate = s.link.candidate ∧ (s.admission f).link.gapTimer = s.link.gapTimer := by
  have placed (r : Reply) : (s.placeReply r).link.candidate = s.link.candidate ∧
      (s.placeReply r).link.gapTimer = s.link.gapTimer :=
    ⟨congrArg (·.2.1) (placeReply_intake s r), congrArg (·.2.2.1) (placeReply_intake s r)⟩
  unfold State.admission
  split
  · exact placed _
  · split
    · exact ⟨rfl, rfl⟩
    · split
      · exact placed _
      · exact ⟨rfl, rfl⟩

theorem frameArrivals_framer (frames : List OrderFrame) (s : State) :
    (frames.foldl State.frameArrival s).link.candidate = s.link.candidate ∧
      (frames.foldl State.frameArrival s).link.gapTimer = s.link.gapTimer := by
  induction frames generalizing s with
  | nil => exact ⟨rfl, rfl⟩
  | cons f frames ih =>
    have touched := (touchLink_inners s).owns.intake
    obtain ⟨candidate, gap⟩ := admission_framer s.touchLink f
    obtain ⟨candidates, gaps⟩ := ih (s.frameArrival f)
    exact ⟨candidates.trans (candidate.trans (congrArg (·.2.1) touched)),
      gaps.trans (gap.trans (congrArg (·.2.2.1) touched))⟩

/-- A scan's candidate is the framer's, whatever the frames found set off. -/
theorem takeScan_framer (s : State) (found : List OrderFrame × List Byte) :
    (s.takeScan found).link.candidate = found.2 ∧
      (s.takeScan found).link.gapTimer =
        if found.2.isEmpty then none else some (after s.now Config.gapLimit) := by
  obtain ⟨frames, held⟩ := found
  cases frames with
  | nil => exact ⟨rfl, rfl⟩
  | cons f frames =>
    rw [takeScan_frames s held (List.cons_ne_nil f frames)]
    obtain ⟨-, -, candidate, gap⟩ := settle_ends ((f :: frames).foldl State.frameArrival
      { s with link := { s.link with
        candidate := held, gapTimer := if held.isEmpty then none else some (after s.now Config.gapLimit) } })
    obtain ⟨candidates, gaps⟩ := frameArrivals_framer (f :: frames)
      { s with link := { s.link with
        candidate := held, gapTimer := if held.isEmpty then none else some (after s.now Config.gapLimit) } }
    exact ⟨candidate.trans candidates, gap.trans gaps⟩

theorem exec_byteArrival (running : s.inReset = false) (b : Byte) :
    exec (.byteArrival (.data b)) s = .next (s.takeScan (scan false (s.link.candidate ++ [b]))) :=
  event_taken (f := (·.byteArrival (.data b))) running

theorem exec_stopError (running : s.inReset = false) :
    exec (.byteArrival .stopError) s = .next (s.takeScan (scan true s.link.candidate)) :=
  event_taken (f := (·.byteArrival .stopError)) running

theorem exec_gapTimerExpiry (running : s.inReset = false) (expired : timerDue s.now s.link.gapTimer = true) :
    exec .gapTimerExpiry s = .next (s.takeScan (scan true s.link.candidate)) := by
  refine (event_taken (f := State.gapExpiry) running).trans ?_
  simp only [State.gapExpiry, expired, if_true]

theorem exec_gapTimer_early (running : s.inReset = false) (early : timerDue s.now s.link.gapTimer = false) :
    exec .gapTimerExpiry s = .next s := by
  refine (event_taken (f := State.gapExpiry) running).trans ?_
  simp only [State.gapExpiry, early, Bool.false_eq_true, if_false]

/-- An incomplete candidate without a second start byte ends with nothing left. -/
theorem scan_true_incomplete {held : List Byte} (judged : judgeCandidate held.tail = .incomplete)
    (single : ∀ b ∈ held.tail, b ≠ 0x5A) : scan true held = ([], []) := by
  cases held with
  | nil => rfl
  | cons b rest =>
    rw [List.tail_cons] at judged single
    by_cases start : b = 0x5A
    · rw [start, scan_ends judged, scan_no_start single]
    · rw [scan_drops start, scan_no_start single]

end events

/-- Settles O14: each event is one scan, and what the scan finds. -/
theorem framerTakesBytes : Obligations.FramerTakesBytes := by
  refine ⟨fun s running => ⟨fun b hunt gap other => ?_, fun hunt => ?_, fun len started low high => ?_,
      fun b f fits joined => ?_, fun hunt gap => ?_, fun started => ?_⟩,
    fun s running => ⟨exec_gapTimer_early running, fun expired => ?_, fun expired judged single => ?_⟩,
    fun s len b held running candidate low high short => ?_,
    fun s running => ⟨fun b => ?_, ?_, fun expired => ?_⟩,
    scan_nil, scan_keeps rfl, scan_ends rfl, fun ended b rest => scan_drops,
    fun ended len rest out => scan_discards (judgeCandidate_out rest out),
    fun len rest low high short => ⟨scan_keeps (judgeCandidate_short low high short),
      scan_ends (judgeCandidate_short low high short)⟩,
    fun ended len c0 c1 counted rest low high length crc => ?_, fun ended f rest => scan_frame⟩
  · rw [exec_byteArrival running, hunt, List.nil_append, scan_drops other, scan_nil, takeScan_hunt hunt gap]
  · rw [exec_byteArrival running, hunt]
    rfl
  · rw [exec_byteArrival running, started]
    have judged := judgeCandidate_short (rest := []) low high (by simp)
    exact congrArg (fun found => Host.Outcome.next (s.takeScan found)) (scan_keeps judged)
  · have found := scan_frame (ended := false) (rest := []) fits
    rw [List.append_nil] at found
    rw [exec_byteArrival running, joined, found]
    rfl
  · rw [exec_stopError running, hunt, scan_nil, takeScan_hunt hunt gap]
  · rw [exec_stopError running, started]
    rfl
  · obtain ⟨candidate, gap⟩ := takeScan_framer s (scan true s.link.candidate)
    rw [scan_true_left] at candidate gap
    exact ⟨_, exec_gapTimerExpiry running expired, candidate, gap⟩
  · rw [exec_gapTimerExpiry running expired, scan_true_incomplete judged single]
    rfl
  · have judged := judgeCandidate_short (rest := held ++ [b]) low high (by simpa using short)
    rw [exec_byteArrival running, candidate]
    exact congrArg (fun found => Host.Outcome.next (s.takeScan found)) (scan_keeps judged)
  · exact (exec_byteArrival running b).trans (congrArg _ (takeScan_eq ..))
  · exact (exec_stopError running).trans (congrArg _ (takeScan_eq ..))
  · exact (exec_gapTimerExpiry running expired).trans (congrArg _ (takeScan_eq ..))
  · obtain ⟨seq, kind, body, rfl⟩ : ∃ seq kind body, counted = seq :: kind :: body := by
      match counted, length with
      | [], length => simp only [List.length_nil] at length; omega
      | [_], length => simp only [List.length_singleton] at length; omega
      | seq :: kind :: body, _ => exact ⟨seq, kind, body, rfl⟩
    refine scan_discards ?_
    rw [judgeCandidate_full high length]
    exact if_neg crc

end Sys2Proof.Laws.Framer
end

section
/-! SUPPORT. Admission, the link timer, and the orders that read. -/

namespace Sys2Proof.Laws.Reads

open Sys2Proof Sys2Proof.Machine Sys2Proof.Laws.Refusals

/-- An order that is taken and decoded: the owner's answer, once it is known. -/
theorem order_answered {α : Type} {kind : Byte} {decode : List Byte → Except Result α} {owner : α → State → Answer}
    {seq : Byte} {body : List Byte} {s : State} {a : α} {x : Answer} (taken : s.takes ⟨seq, kind, body⟩ = true)
    (decoded : decode body = .ok a) (answered : owner a s = x) :
    order kind decode owner seq body s = .next (x.state.answer ⟨seq, kind, body⟩ x.body x.bound) := by
  rw [order_taken taken decoded, answered]

/-! ## Admission -/

section admission

variable {s : State} {f : OrderFrame}

theorem admission_cached {e : CacheEntry} (numbered : f.seq ≠ 0)
    (known : (s.link.cache.find? fun e => e.seq = f.seq && e.crc = f.crc) = some e) :
    s.admission f = s.placeReply ⟨e.seq, e.kind, e.body, .nothing⟩ := by
  simp only [State.admission, numbered, ne_eq, not_false_eq_true, decide_true, Bool.true_and, known]

theorem cache_unknown (h : f.seq = 0 ∨ ∀ e ∈ s.link.cache, ¬ (e.seq = f.seq ∧ e.crc = f.crc)) :
    (s.link.cache.find? fun e => f.seq ≠ 0 && e.seq = f.seq && e.crc = f.crc) = none := by
  refine List.find?_eq_none.mpr fun e mem match' => ?_
  simp only [ne_eq, decide_not, Bool.and_eq_true, Bool.not_eq_true', decide_eq_false_iff_not,
    decide_eq_true_eq] at match'
  obtain ⟨⟨numbered, seq⟩, crc⟩ := match'
  exact h.elim numbered fun other => other e mem ⟨seq, crc⟩

theorem admission_waiting (unknown : f.seq = 0 ∨ ∀ e ∈ s.link.cache, ¬ (e.seq = f.seq ∧ e.crc = f.crc))
    (numbered : f.seq ≠ 0) (waits : ∃ g ∈ s.link.inbox, g.seq = f.seq ∧ g.crc = f.crc) : s.admission f = s := by
  obtain ⟨g, mem, seq, crc⟩ := waits
  have there : (s.link.inbox.any fun g => f.seq ≠ 0 && g.seq = f.seq && g.crc = f.crc) = true :=
    List.any_eq_true.mpr ⟨g, mem, by simpa [seq, crc] using numbered⟩
  simp only [State.admission, cache_unknown unknown, there, if_true]

theorem admission_new (unknown : f.seq = 0 ∨ ∀ e ∈ s.link.cache, ¬ (e.seq = f.seq ∧ e.crc = f.crc))
    (new : f.seq = 0 ∨ ∀ g ∈ s.link.inbox, ¬ (g.seq = f.seq ∧ g.crc = f.crc)) :
    s.admission f =
      if 4 ≤ s.link.inbox.length then s.placeReply ⟨f.seq, f.kind + 0x80, .code .inboxFull, .nothing⟩
      else { s with link := { s.link with inbox := s.link.inbox ++ [f] } } := by
  have absent : (s.link.inbox.any fun g => f.seq ≠ 0 && g.seq = f.seq && g.crc = f.crc) = false := by
    refine List.any_eq_false.mpr fun g mem match' => ?_
    simp only [ne_eq, decide_not, Bool.and_eq_true, Bool.not_eq_true', decide_eq_false_iff_not,
      decide_eq_true_eq] at match'
    obtain ⟨⟨numbered, seq⟩, crc⟩ := match'
    exact new.elim numbered fun other => other g mem ⟨seq, crc⟩
  simp only [State.admission, cache_unknown unknown, absent, Bool.false_eq_true, if_false]
  rfl

end admission

/-- Settles O15: admission by the cache, the inbox and its room. -/
theorem framesAdmitted : Obligations.FramesAdmitted := by
  refine ⟨fun s f untimed => ?_, fun s f => ⟨fun e => admission_cached, fun unknown =>
    ⟨admission_waiting unknown, fun new => ⟨fun full => ?_, fun room => ?_⟩⟩⟩⟩
  · simp only [State.frameArrival, State.touchLink, untimed, if_true]
  · rw [admission_new unknown new, if_pos full]
  · rw [admission_new unknown new, if_neg (by omega)]

/-! ## The link timer -/

section timer

variable {s : State}

theorem setLinkActive_same {a : Bool} (h : s.link.linkActive = a) : s.setLinkActive a = s := by
  simp only [State.setLinkActive, h, if_true]

theorem setLinkActive_changes {a : Bool} (h : s.link.linkActive = !a) :
    s.setLinkActive a = State.sourceChange { s with link := { s.link with linkActive := a } } 0x10 := by
  have differs : ¬ s.link.linkActive = a := by rw [h]; simp
  simp only [State.setLinkActive, differs, if_false]
  rfl

end timer

/-- Settles O16: each event of the link timer is LINK taking a state. -/
theorem linkTimerRuns : Obligations.LinkTimerRuns := by
  refine ⟨fun s f timed => ⟨fun inactive => ?_, fun active => ?_⟩,
    fun s running => ⟨fun early => ?_, fun expired inactive => ?_, fun expired active => ?_⟩,
    fun seq body b t s taken decoded => ⟨fun timed => ?_, fun untimed inactive => ?_, fun untimed active => ?_⟩⟩
  · simp only [State.frameArrival, State.touchLink, timed, if_false]
    rw [setLinkActive_same (by exact inactive), ← inactive]
    rfl
  · simp only [State.frameArrival, State.touchLink, timed, if_false]
    rw [setLinkActive_changes (by exact active)]
    rfl
  · refine (event_taken (f := State.linkExpiry) running).trans ?_
    simp only [State.linkExpiry, early, Bool.false_eq_true, if_false]
  · refine (event_taken (f := State.linkExpiry) running).trans ?_
    simp only [State.linkExpiry, expired, if_true]
    rw [setLinkActive_changes (by exact inactive)]
  · refine (event_taken (f := State.linkExpiry) running).trans ?_
    simp only [State.linkExpiry, expired, if_true]
    rw [setLinkActive_same (by exact active)]
  · refine order_answered (kind := 0x04) (owner := ownSetLink) taken decoded
      (x := ⟨_, .setLink b t, .baud b⟩) ?_
    simp only [ownSetLink, timed, if_false]
    rfl
  · subst untimed
    refine order_answered (kind := 0x04) (owner := ownSetLink) taken decoded
      (x := ⟨_, .setLink b 0, .baud b⟩) ?_
    simp only [ownSetLink, if_true]
    rw [setLinkActive_same (by exact inactive), ← inactive]
  · subst untimed
    refine order_answered (kind := 0x04) (owner := ownSetLink) taken decoded
      (x := ⟨_, .setLink b 0, .baud b⟩) ?_
    simp only [ownSetLink, if_true]
    rw [setLinkActive_changes (by exact active)]
    rfl

/-! ## The orders that read -/

theorem allOutputs_eq : allOutputs = List.finRange 16 := by decide

theorem anyHostTrip_iff (s : State) : s.anyHostTrip = true ↔ ∃ g, (s.group g).hostTrip = true := by
  simp [State.anyHostTrip, Sent.mem_allGroups]

theorem timeLeft_due {now e : Time} (h : due now e = true) : timeLeft now (some e) = none := by
  simp only [timeLeft, h, if_true]

theorem timeLeft_runs {now e : Time} (h : due now e = false) : timeLeft now (some e) = some (e - now) := by
  simp only [timeLeft, h, Bool.false_eq_true, if_false]

/-- Settles O17: the owners that read answer the state as it stands. -/
theorem stateReadOut : Obligations.StateReadOut := by
  refine ⟨fun seq s => ⟨fun taken => order_taken taken rfl, by decide, fun taken => ?_,
      fun taken => order_taken taken rfl⟩,
    fun seq body s => ⟨fun o taken decoded => order_taken taken decoded, fun o i taken decoded => ?_,
      fun i taken decoded => ?_, fun g taken decoded => ?_⟩,
    fun now => ⟨rfl, fun e => timeLeft_due, fun e => timeLeft_runs⟩⟩
  · refine (order_taken (owner := ownStatus) taken rfl).trans ?_
    simp only [ownStatus, State.statusSources, anyHostTrip_iff]
    rfl
  · refine (order_taken (owner := ownQueueRead) taken decoded).trans ?_
    simp only [ownQueueRead, Config.queueReadEntries]
  · refine (order_taken (owner := ownIsetRead) taken decoded).trans ?_
    simp only [ownIsetRead, State.setMembers, allOutputs_eq]
  · refine (order_taken (owner := ownTripRead) taken decoded).trans ?_
    simp only [ownTripRead, State.groupMembers, allOutputs_eq]
    rfl

section camRead

variable {s : State} {sel : TableSel} {slot : Slot} {b : Byte}

theorem ownCamRead_no_slot (high : 96 ≤ b.toNat) : ownCamRead (sel, b) s = refuse s .noSuchSlot := by
  have none : slotOf b = none := Option.eq_none_iff_forall_ne_some.mpr fun i e => by
    have := slotOf_eq_some.mp e
    omega
  simp only [ownCamRead, none]

theorem ownCamRead_empty (named : slot.val = b.toNat) (empty : rd (s.camTable sel) slot = none) :
    ownCamRead (sel, b) s = refuse s .noSuchSlot := by
  simp only [ownCamRead, slotOf_eq_some.mpr named.symm, empty]

theorem ownCamRead_window {w : Window} (named : slot.val = b.toNat) (window : rd (s.camTable sel) slot = some w) :
    ownCamRead (sel, b) s = { state := s, body := .camRead sel slot w (s.readPass sel slot w.output) } := by
  simp only [ownCamRead, slotOf_eq_some.mpr named.symm, window]

theorem readPass_here {o : Output} {p : Pass} (pass : s.pass o = some p) (here : p.slot = slot) :
    s.readPass .active slot o = some p := by
  simp [State.readPass, pass, here]

theorem readPass_none {o : Output} (h : s.pass o = none ∨ ∃ p, s.pass o = some p ∧ p.slot ≠ slot) :
    s.readPass .active slot o = none := by
  rcases h with none | ⟨p, pass, elsewhere⟩
  · simp [State.readPass, none]
  · simp [State.readPass, pass, elsewhere]

end camRead

/-- Settles O18: the slot, the window, and the pass on it. -/
theorem camReadOut : Obligations.CamReadOut := by
  intro seq body s sel b taken decoded
  have answered {x : Answer} (h : ownCamRead (sel, b) s = x) :
      exec (.camRead seq body) s = .next (x.state.answer ⟨seq, 0x48, body⟩ x.body x.bound) :=
    order_answered taken decoded h
  refine ⟨fun high => answered (ownCamRead_no_slot high), fun slot named =>
    ⟨fun empty => answered (ownCamRead_empty named empty), ?_, ?_⟩⟩
  · rintro w window rfl
    exact answered (ownCamRead_window named window)
  · rintro w window rfl
    refine ⟨fun p pass here => ?_, fun elsewhere => ?_⟩
    · rw [← readPass_here pass here]
      exact answered (ownCamRead_window named window)
    · rw [← readPass_none elsewhere]
      exact answered (ownCamRead_window named window)

end Sys2Proof.Laws.Reads
end

section
/-! SUPPORT. The mode orders and a change of mode: what inhibit on and off do by the state they find, the reports to
several channels, and the Cam Unit's part. -/

namespace Sys2Proof.Laws.Modes

open Sys2Proof Sys2Proof.Machine Sys2Proof.Laws.Drive Sys2Proof.Laws.Invariants Sys2Proof.Laws.Shots Sys2Proof.Laws.Reads
open Sys2Proof.Laws.CamTables

variable {s : State}

/-! ## A change of mode -/

theorem camModeReport_frame (s : State) :
    s.camModeReport = { s with
      cam := s.camModeReport.cam, link := s.camModeReport.link, notices := s.camModeReport.notices } := by
  unfold State.camModeReport State.takePending State.takeCommit
  split
  · rfl
  · split
    · rw [post_frame]
    · rfl

theorem changeMode_groups (s : State) (m : Mode) : (s.changeMode m).groups = s.groups := by
  have reported := outside_groups (reportAll_reported { s with mode := m } allOutputs).outside
  unfold State.changeMode
  rw [camModeReport_frame]
  exact reported

theorem changeMode_inners (s : State) (m : Mode) : Inners { s with mode := m } (s.changeMode m) :=
  (reportAll_inners _ _).trans (camModeReport_inners _)

theorem changeMode_profiles (s : State) (m : Mode) : (s.changeMode m).profiles = s.profiles := by
  have frame := congrArg State.profiles (changeMode_inners s m).frame
  exact frame

theorem changeMode_pins (s : State) (m : Mode) : (s.changeMode m).pins = s.pins := by
  have frame := congrArg State.pins (changeMode_inners s m).frame
  exact frame

/-! ## The mode orders -/

/-- The outputs held are those with a group that is not NORMAL. -/
theorem heldOutputs_eq (s : State) :
    s.heldOutputs = (List.finRange 16).filter fun o =>
      decide (∃ g : GroupId, (s.profile o).groups.getLsbD g.val = true ∧ (s.group g).state ≠ .normal) := by
  unfold State.heldOutputs
  rw [allOutputs_eq]
  refine congrArg (fun p => List.filter p (List.finRange 16)) (funext fun o => ?_)
  rw [Bool.eq_iff_iff, heldByGroup_iff, decide_eq_true_eq]
  exact Iff.rfl

theorem changeMode_heldOutputs (s : State) (m : Mode) : (s.changeMode m).heldOutputs = s.heldOutputs := by
  unfold State.heldOutputs State.heldByGroup State.profile State.group
  rw [changeMode_profiles, changeMode_groups]

/-- A purge changes the queues alone and counts what it removes. -/
theorem purgeQueues_frame (os : List Output) (s : State) :
    (s.purgeQueues os).2 = { s with queues := (s.purgeQueues os).2.queues } := by
  have fold : ∀ (os : List Output) (r : Nat × State),
      (os.foldl (fun r o => ((r.1 + (r.2.purgeQueue o).1), (r.2.purgeQueue o).2)) r).2 =
        { r.2 with queues :=
          (os.foldl (fun r o => ((r.1 + (r.2.purgeQueue o).1), (r.2.purgeQueue o).2)) r).2.queues } := by
    intro os
    induction os with
    | nil => intro r; rfl
    | cons o os ih => intro r; exact ih _
  exact fold os (0, s)

theorem purgeQueues_count (os : List Output) (distinct : os.Nodup) (s : State) :
    (s.purgeQueues os).1 = (os.map fun o => (s.queue o).length).sum := by
  have fold : ∀ (os : List Output), os.Nodup → ∀ (n : Nat) (s : State),
      (os.foldl (fun r o => ((r.1 + (r.2.purgeQueue o).1), (r.2.purgeQueue o).2)) (n, s)).1 =
        n + (os.map fun o => (s.queue o).length).sum := by
    intro os
    induction os with
    | nil => intro _ n s; rfl
    | cons o os ih =>
      intro distinct n s
      obtain ⟨new, distinct⟩ := List.nodup_cons.mp distinct
      have same : (os.map fun p => ((s.setQueue o []).queue p).length) = os.map fun p => (s.queue p).length :=
        List.map_congr_left fun p mem => by rw [State.setQueue_queue, if_neg (by rintro rfl; exact new mem)]
      rw [List.foldl_cons, List.map_cons, List.sum_cons]
      refine (ih distinct _ _).trans ?_
      rw [show ((n, s).2.purgeQueue o).2 = s.setQueue o [] from rfl, same]
      exact Nat.add_assoc ..
  exact (fold os distinct 0 s).trans (Nat.zero_add _)

theorem purgeQueues_all (s : State) :
    s.purgeQueues allOutputs = (s.poolUse, { s with queues := Vector.replicate 16 [] }) := by
  have empty : (s.purgeQueues allOutputs).2.queues = Vector.replicate 16 [] := by
    apply Vector.ext
    intro i inside
    have emptied := purgeQueues_queue allOutputs s ⟨i, inside⟩
    rw [if_pos (mem_allOutputs _)] at emptied
    simpa [State.queue, rd] using emptied
  refine Prod.ext (purgeQueues_count allOutputs (by decide) s) ?_
  rw [purgeQueues_frame, empty]

/-- Settles O19: each order in the mode it needs, and in the others. -/
theorem modeOrdersTaken : Obligations.ModeOrdersTaken := by
  refine ⟨fun seq s => ⟨fun taken idle => ?_, fun taken running => ?_, fun taken paused => ?_, fun taken other => ?_⟩,
    fun seq s => ⟨fun taken run => ?_, fun taken other => ?_, fun taken running => ?_, fun taken idle => ?_⟩⟩
  · refine (order_empty_answered (owner := ownStart) taken rfl).trans ?_
    simp only [ownStart, idle, ne_eq, not_true_eq_false, if_false, changeMode_heldOutputs]
    rw [heldOutputs_eq]
  · refine order_empty_refused (owner := ownStart) taken ?_
    simp only [ownStart, running, ne_eq, not_false_eq_true, if_true]
  · refine (order_empty_answered (owner := ownResume) taken rfl).trans ?_
    simp only [ownResume, paused, ne_eq, not_true_eq_false, if_false, changeMode_heldOutputs]
    rw [heldOutputs_eq]
  · refine order_empty_refused (owner := ownResume) taken ?_
    simp only [ownResume, other, ne_eq, not_false_eq_true, if_true]
  · refine (order_empty_answered (owner := ownPause) taken rfl).trans ?_
    simp only [ownPause, run, ne_eq, not_true_eq_false, if_false]
  · refine order_empty_refused (owner := ownPause) taken ?_
    simp only [ownPause, other, ne_eq, not_false_eq_true, if_true]
  · refine (order_empty_answered (owner := ownStop) taken rfl).trans ?_
    simp only [ownStop, running, if_false, purgeQueues_all]
  · refine order_empty_refused (owner := ownStop) taken ?_
    simp only [ownStop, idle, if_true]

/-! ## Inhibit, by the state it finds -/

section inhibit

variable {o : Output}

theorem reportInhibit_on (h : s.inhibitCondition o = true) : s.reportInhibit o = s.inhibitOn o := by
  simp only [State.reportInhibit, h, if_true]

theorem reportInhibit_off (h : s.inhibitCondition o = false) (state : (s.chan o).state = .inhibited) :
    s.reportInhibit o = s.inhibitOff o := by
  simp only [State.reportInhibit, h, state, Bool.false_eq_true, if_false, if_true]

theorem reportInhibit_none (h : s.inhibitCondition o = false) (state : (s.chan o).state ≠ .inhibited) :
    s.reportInhibit o = s := by
  simp only [State.reportInhibit, h, state, Bool.false_eq_true, if_false]

theorem inhibitOn_driving (h : (s.chan o).driving = true) :
    s.inhibitOn o =
      (s.stopDrive o fun c => { c with state := .inhibited, demand := none, manualDemand := false }).reportEnded o
        (s.chan o).demand := by
  have drives : (s.chan o).state = .boost ∨ (s.chan o).state = .hold := by
    simpa [Channel.driving] using h
  rcases drives with state | state <;> simp only [State.inhibitOn, state]

theorem inhibitOff_recover (h : (s.chan o).recoverTimer ≠ none) :
    s.inhibitOff o = s.setChan o { s.chan o with state := .recover } := by
  simp only [State.inhibitOff, Option.isSome_iff_ne_none.mpr h, if_true]

theorem inhibitOff_off (h : (s.chan o).recoverTimer = none) :
    s.inhibitOff o = (s.setChan o { s.chan o with state := .off }).reportFree o := by
  simp only [State.inhibitOff, h, Option.isSome_none, Bool.false_eq_true, if_false]

theorem reportFree_other (h : (s.profile o).source ≠ .shot) : s.reportFree o = s := by
  simp only [State.reportFree, h, if_false]

theorem reportFree_shot (h : (s.profile o).source = .shot) : s.reportFree o = s.look o := by
  simp only [State.reportFree, h, if_true]

/-- A served shot that inhibit ends leaves its queue, reported where it asks for it. -/
theorem reportEnded_served {tag : Word16} {e : Entry} {rest : List Entry} (queue : s.queue o = e :: rest)
    (served : e.served = true) :
    s.reportEnded o (some (.shot tag)) =
      if e.report then (s.setQueue o rest).post (.shotEnd o e.tag .aborted e.start e.driveStart s.now)
      else s.setQueue o rest := by
  simp only [State.reportEnded, queue, served, if_true, State.postShotEnd]
  rfl

/-- The reports of one change reach each output once, in an order the world takes. -/
theorem reportAll_order (s : State) (os : List Output) :
    ∃ (order : List Output) (choices : List Nat) (picks : Nat), order.Perm os ∧
      s.reportAll os = order.foldl State.reportInhibit { s with choices := choices, picks := picks } := by
  refine ⟨(os.filter fun o => !s.reportReaches o) ++ (arrange (os.filter s.reportReaches) s).1,
    (arrange (os.filter s.reportReaches) s).2.choices, (arrange (os.filter s.reportReaches) s).2.picks, ?_, ?_⟩
  · have both : ((os.filter fun o => !s.reportReaches o) ++ os.filter s.reportReaches).Perm os :=
      List.perm_append_comm.trans (List.filter_append_perm ..)
    exact ((arrange_perm _ s).append_left _).trans both
  · unfold State.reportAll
    rw [← arrange_frame]

end inhibit

/-! ## The Cam Unit's part -/

theorem changeMode_run (s : State) : s.changeMode .run = State.reportAll { s with mode := .run } allOutputs := by
  have mode : (State.reportAll { s with mode := .run } allOutputs).mode = .run :=
    outside_mode (reportAll_reported { s with mode := .run } allOutputs).outside
  simp only [State.changeMode, State.camModeReport, mode, if_true]

theorem changeMode_other {m : Mode} (h : m ≠ .run) :
    s.changeMode m =
      let t := State.reportAll { s with mode := m } allOutputs
      State.takePending { t with cam := { t.cam with passes := Vector.replicate 16 none } } .mode := by
  have mode : (State.reportAll { s with mode := m } allOutputs).mode = m :=
    outside_mode (reportAll_reported { s with mode := m } allOutputs).outside
  simp only [State.changeMode, State.camModeReport, mode, h, if_false]

/-- Outside RUN no pass is left; a pending commit takes effect. -/
theorem changeMode_quiet {m : Mode} (h : m ≠ .run) (none' : s.cam.commitPending = false) :
    s.changeMode m =
      let t := State.reportAll { s with mode := m } allOutputs
      { t with cam := { t.cam with passes := Vector.replicate 16 none } } := by
  have commit := outside_commit (reportAll_reported { s with mode := m } allOutputs).outside
  have quiet : ¬ (State.reportAll { s with mode := m } allOutputs).cam.commitPending = true := by
    rw [commit]
    simp [none']
  rw [changeMode_other h]
  exact if_neg quiet

theorem changeMode_commits {m : Mode} (h : m ≠ .run) (pending : s.cam.commitPending = true) :
    s.changeMode m =
      let t := State.reportAll { s with mode := m } allOutputs
      State.post
        { t with cam :=
          { t.cam with passes := Vector.replicate 16 none, active := t.cam.shadow, commitPending := false } }
        (.camCommitted .mode s.tracker.cycle
          ((List.finRange 96).filter fun i => (rd t.cam.shadow i).isSome).length) := by
  have reported := (reportAll_reported { s with mode := m } allOutputs).outside
  have tracker := outside_tracker reported
  have commit := (outside_commit reported).trans pending
  rw [changeMode_other h]
  refine (if_pos commit).trans ?_
  simp only [State.takeCommit, count_eq_occupied, tracker]

/-- Settles O20: the invariant through the change, then each rule by its case. -/
theorem modeChangeInhibits : Obligations.ModeChangeInhibits := by
  refine ⟨fun s m right => ?_, fun s o => ⟨?_, reportInhibit_on, reportInhibit_off, reportInhibit_none⟩,
    fun s o => ⟨fun state => ?_, fun state => ?_, fun state => ?_, fun i state set => ?_, inhibitOn_driving,
      fun state => ?_, inhibitOff_recover, fun timer source => ?_, fun timer source => ?_⟩,
    fun s o => ⟨fun tag e rest => reportEnded_served, fun _ => rfl, rfl, rfl⟩, reportAll_order,
    fun s m => ⟨?_, fun other none => ?_, fun other pending => ?_⟩⟩
  · have after := (changeMode_drive s m right).1
    have mode := changeMode_mode s m
    refine ⟨mode, after, changeMode_profiles s m, changeMode_groups s m, changeMode_tracker s m, changeMode_pins s m,
      fun other => ?_⟩
    have idle : (s.changeMode m).mode ≠ .run := by rw [mode]; exact other
    refine ⟨fun o => ?_, ?_, idle_inhibited idle after, fun i => (idle_sets_empty idle after i).1,
      fun i => (idle_sets_empty idle after i).2⟩
    · refine Option.not_isSome_iff_eq_none.mp fun some => other (changeMode_pass s m o some).1
    · simp [changeMode_commit, other]
  · rw [State.inhibitCondition, Bool.or_eq_true, decide_eq_true_eq, heldByGroup_iff]
    exact Iff.rfl
  · simp only [State.inhibitOn, state]
  · simp only [State.inhibitOn, state]
  · simp only [State.inhibitOn, state]
  · simp only [State.inhibitOn, state, State.withdraw, set, State.leaveGrants]
  · simp only [State.inhibitOn, state]
  · rw [inhibitOff_off timer, reportFree_other (by exact source)]
  · rw [inhibitOff_off timer, reportFree_shot (by exact source)]
  · rintro rfl
    exact changeMode_run s
  · rw [← allOutputs_eq]
    exact changeMode_quiet other none
  · rw [← allOutputs_eq]
    exact changeMode_commits other pending

end Sys2Proof.Laws.Modes
end

section
/-! SUPPORT. The step with no command waiting: the microsecond, the events that have come due, and the decoder's turn. -/

namespace Sys2Proof.Laws.Idle

open Sys2Proof Sys2Proof.Machine Sys2Proof.Laws.Commands Sys2Proof.Laws.Shots

variable {s : State}

/-! ## The step -/

theorem step_idle (none : s.pending = []) : step s = .next s.idle := by simp only [step, none]

theorem inReset_of_ready (ready : s.decoderReady = true) : s.inReset = false := by
  cases reset : s.inReset with
  | false => rfl
  | true => rw [decoderReady_of_inReset reset] at ready; cases ready

theorem idle_reset (reset : s.inReset = true) : s.idle = s := by simp only [State.idle, reset, if_true]

theorem idle_takes {f : OrderFrame} {rest : List OrderFrame} (ready : s.decoderReady = true)
    (inbox : s.link.inbox = f :: rest) : s.idle = { s with pending := [orderCommand f] } := by
  simp only [State.idle, inReset_of_ready ready, inbox, ready, Bool.false_eq_true, if_false, if_true]

theorem idle_tick (running : s.inReset = false) (waits : s.decoderReady = false ∨ s.link.inbox = []) :
    s.idle = s.tick := by
  rcases waits with busy | empty
  · cases inbox : s.link.inbox with
    | nil => simp only [State.idle, running, inbox, Bool.false_eq_true, if_false]
    | cons f rest => simp only [State.idle, running, inbox, busy, Bool.false_eq_true, if_false]
  · simp only [State.idle, running, empty, Bool.false_eq_true, if_false]

/-- A microsecond is the advance, with the due events waiting in an order the world takes. -/
theorem tick_eq (s : State) :
    s.tick = { s.advance with pending := s.tick.pending, choices := s.tick.choices, picks := s.tick.picks } := by
  unfold State.tick
  dsimp only
  rw [arrange_frame]

theorem tick_pending (s : State) : s.tick.pending.Perm s.advance.dueEvents := by
  have both : (s.advance.dueEvents.filter (s.advance.early s.advance.dueEvents) ++
      s.advance.dueEvents.filter fun c => !s.advance.early s.advance.dueEvents c).Perm s.advance.dueEvents :=
    List.filter_append_perm ..
  exact ((arrange_perm _ _).append_left _).trans both

theorem advance_eq (s : State) :
    s.advance =
      { s with
        now := s.now + 1
        channels := s.channels.map fun c =>
          if c.state = .hold then { c with holdPhase := (c.holdPhase + 1) % 50 } else c
        link := { s.link with tx := s.link.tx.map fun x =>
          { x with progress := x.progress +
              match s.link.baud with
              | .b115200 => 115200
              | .b230400 => 230400
              | .b460800 => 460800
              | .b921600 => 921600 } } } := by
  unfold State.advance
  cases s.link.baud <;> rfl

/-! ## The due events -/

theorem mem_raise {c : Bool} {i j : Instr} : i ∈ raise c j ↔ c = true ∧ i = j := by
  cases c <;> simp [raise]

/-- An entry raises the event of its state. -/
theorem mem_entry_events {e : Entry} {now : Time} {o : Output} {c : Instr} :
    c ∈ e.events now o ↔
      (e.state = .waiting ∧ due now e.start = true ∧ c = .shotStartDue o e.start) ∨
        (e.state = .late ∧ due now e.dropTime = true ∧ c = .shotDropDue o e.start) ∨
          ∃ d, e.state = .active d ∧ due now (after d e.duration) = true ∧ c = .shotEndDue o := by
  unfold Entry.events
  cases e.state <;> simp [mem_raise]

theorem mem_channelEvents {o : Output} {c : Instr} :
    c ∈ s.channelEvents o ↔
      (timerDue s.now (s.chan o).boostTimer = true ∧ c = .boostTimerExpiry o) ∨
        (timerDue s.now (s.chan o).maxOnTimer = true ∧ c = .maxOnTimerExpiry o) ∨
          (timerDue s.now (s.chan o).recoverTimer = true ∧ c = .recoverTimerExpiry o) ∨
            (timerDue s.now (s.chan o).deferTimer = true ∧ c = .deferTimerExpiry o) := by
  simp only [State.channelEvents, List.mem_append, mem_raise, or_assoc]

theorem mem_allInputs (i : InputId) : i ∈ allInputs := by
  revert i
  decide

theorem txDone_iff (s : State) :
    s.txDone = true ↔ ∃ x, s.link.tx = some x ∧ 10 * (x.frame.body.length + 7) * 1000000 ≤ x.progress := by
  unfold State.txDone
  cases s.link.tx with
  | none => simp
  | some x =>
    simp only [Option.some.injEq, exists_eq_left']
    exact decide_eq_true_iff

theorem mem_dueEvents {c : Instr} :
    c ∈ s.dueEvents ↔
      (timerDue s.now s.link.gapTimer = true ∧ c = .gapTimerExpiry) ∨
      (timerDue s.now s.link.timer = true ∧ c = .linkTimerExpiry) ∨ (s.txDone = true ∧ c = .frameSent) ∨
      (timerDue s.now s.tracker.stallTimer = true ∧ c = .stallTimerExpiry) ∨ (∃ o, c ∈ s.channelEvents o) ∨
      (∃ o, ∃ e ∈ s.queue o, c ∈ e.events s.now o) ∨
      (∃ i, due s.now (s.faultIn i).nextSample = true ∧ c = .faultSample i (rd s.pins.faults i)) ∨
      (s.rail.enable = true ∧ due s.now s.rail.nextSample = true ∧ c = .railSample s.pins.rail) ∨
      ∃ g, timerDue s.now (s.group g).restoreTimer = true ∧ c = .restoreTimerExpiry g := by
  simp only [State.dueEvents, State.faultEvents, State.railEvents, State.groupEvents, List.mem_append, List.mem_flatMap,
    mem_raise, mem_allOutputs, mem_allInputs, Sent.mem_allGroups, true_and, or_assoc, Bool.and_eq_true, and_assoc]

/-- Every due event is of one of these kinds. -/
theorem dueEvents_kinds (s : State) : ∀ c ∈ s.dueEvents,
    c = .gapTimerExpiry ∨ c = .linkTimerExpiry ∨ c = .frameSent ∨ c = .stallTimerExpiry ∨
      (∃ o, c = .boostTimerExpiry o ∨ c = .maxOnTimerExpiry o ∨ c = .recoverTimerExpiry o ∨ c = .deferTimerExpiry o ∨
        c = .shotEndDue o ∨ ∃ t, c = .shotStartDue o t ∨ c = .shotDropDue o t) ∨
      (∃ i level, c = .faultSample i level) ∨ (∃ v, c = .railSample v) ∨ ∃ g, c = .restoreTimerExpiry g := by
  intro c mem
  simp only [mem_dueEvents, mem_channelEvents, mem_entry_events] at mem
  rcases mem with ⟨-, rfl⟩ | ⟨-, rfl⟩ | ⟨-, rfl⟩ | ⟨-, rfl⟩ |
    ⟨o, ⟨-, rfl⟩ | ⟨-, rfl⟩ | ⟨-, rfl⟩ | ⟨-, rfl⟩⟩ |
    ⟨o, e, -, ⟨-, -, rfl⟩ | ⟨-, -, rfl⟩ | ⟨d, -, -, rfl⟩⟩ | ⟨i, -, rfl⟩ | ⟨-, -, rfl⟩ | ⟨g, -, rfl⟩
  all_goals simp

/-! ## The decoder -/

theorem inReset_iff (s : State) : s.inReset = true ↔ s.pins.supplySettled = false ∨ s.pins.nrst = .low := by
  simp [State.inReset]

theorem decoderReady_iff (s : State) :
    s.decoderReady = true ↔ s.inReset = false ∧ s.link.halted = false ∧ s.link.replies.length < 8 := by
  rw [State.decoderReady, Bool.and_eq_true, Bool.and_eq_true, Bool.not_eq_true', Bool.not_eq_true', and_assoc]
  exact Iff.rfl.and (Iff.rfl.and decide_eq_true_iff)

theorem takes_iff (s : State) (f : OrderFrame) :
    s.takes f = true ↔ s.decoderReady = true ∧ (s.link.inbox = [] ∨ ∃ rest, s.link.inbox = f :: rest) := by
  cases inbox : s.link.inbox with
  | nil => simp [State.takes, inbox]
  | cons g rest => simp [State.takes, inbox]

/-- The decoder's taking of the oldest frame is its order command. -/
theorem exec_takes {f : OrderFrame} {rest : List OrderFrame} (ready : s.decoderReady = true)
    (inbox : s.link.inbox = f :: rest) :
    ∃ t, exec (orderCommand f) s = .next t ∧ t.link.inbox = rest ∧ s.settle = t.settle := by
  obtain ⟨t, e⟩ := exec_next (orderCommand f) s
  have taken : s.afterTaking f = t := by
    unfold State.afterTaking
    rw [takeFrame_exec, e]
  have left := congrArg (·.2.2.2) (afterTaking_intake ready inbox)
  rw [taken] at left
  exact ⟨t, e, left, by rw [settle_takes ready inbox, taken]⟩

/-- Which events are due, kind by kind. -/
theorem dueEvents_link (s : State) :
    (Instr.gapTimerExpiry ∈ s.dueEvents ↔ timerDue s.now s.link.gapTimer = true) ∧
      (Instr.linkTimerExpiry ∈ s.dueEvents ↔ timerDue s.now s.link.timer = true) ∧
      (Instr.frameSent ∈ s.dueEvents ↔
        ∃ x, s.link.tx = some x ∧ 10 * (x.frame.body.length + 7) * 1000000 ≤ x.progress) ∧
      (Instr.stallTimerExpiry ∈ s.dueEvents ↔ timerDue s.now s.tracker.stallTimer = true) := by
  simp only [mem_dueEvents, mem_channelEvents, mem_entry_events, txDone_iff]
  simp

theorem dueEvents_channel (s : State) (o : Output) :
    (Instr.boostTimerExpiry o ∈ s.dueEvents ↔ timerDue s.now (s.chan o).boostTimer = true) ∧
      (Instr.maxOnTimerExpiry o ∈ s.dueEvents ↔ timerDue s.now (s.chan o).maxOnTimer = true) ∧
      (Instr.recoverTimerExpiry o ∈ s.dueEvents ↔ timerDue s.now (s.chan o).recoverTimer = true) ∧
      (Instr.deferTimerExpiry o ∈ s.dueEvents ↔ timerDue s.now (s.chan o).deferTimer = true) := by
  simp only [mem_dueEvents, mem_channelEvents, mem_entry_events]
  simp

theorem dueEvents_shots (s : State) (o : Output) :
    (∀ t, Instr.shotStartDue o t ∈ s.dueEvents ↔
        ∃ e ∈ s.queue o, e.state = .waiting ∧ e.start = t ∧ due s.now t = true) ∧
      (∀ t, Instr.shotDropDue o t ∈ s.dueEvents ↔
        ∃ e ∈ s.queue o, e.state = .late ∧ e.start = t ∧ due s.now (t + BitVec.ofNat 32 (e.grace + 1)) = true) ∧
      (Instr.shotEndDue o ∈ s.dueEvents ↔
        ∃ e ∈ s.queue o, ∃ d, e.state = .active d ∧ due s.now (d + BitVec.ofNat 32 e.duration) = true) := by
  simp only [mem_dueEvents, mem_channelEvents, mem_entry_events]
  refine ⟨fun t => ?_, fun t => ?_, ?_⟩
  · simp only [reduceCtorEq, and_false, or_false, false_or, exists_false, Instr.shotStartDue.injEq]
    constructor
    · rintro ⟨p, e, mem, waiting, came, rfl, rfl⟩
      exact ⟨e, mem, waiting, rfl, came⟩
    · rintro ⟨e, mem, waiting, rfl, came⟩
      exact ⟨o, e, mem, waiting, came, rfl, rfl⟩
  · simp only [reduceCtorEq, and_false, or_false, false_or, exists_false, Instr.shotDropDue.injEq]
    constructor
    · rintro ⟨p, e, mem, late, came, rfl, rfl⟩
      exact ⟨e, mem, late, rfl, came⟩
    · rintro ⟨e, mem, late, rfl, came⟩
      exact ⟨o, e, mem, late, came, rfl, rfl⟩
  · simp only [reduceCtorEq, and_false, or_false, false_or, exists_false, Instr.shotEndDue.injEq]
    constructor
    · rintro ⟨p, e, mem, d, active, came, rfl⟩
      exact ⟨e, mem, d, active, came⟩
    · rintro ⟨e, mem, d, active, came⟩
      exact ⟨o, e, mem, d, active, came, rfl⟩

theorem dueEvents_trip (s : State) :
    (∀ i level, Instr.faultSample i level ∈ s.dueEvents ↔
        due s.now (s.faultIn i).nextSample = true ∧ level = rd s.pins.faults i) ∧
      (∀ v, Instr.railSample v ∈ s.dueEvents ↔
        s.rail.enable = true ∧ due s.now s.rail.nextSample = true ∧ v = s.pins.rail) ∧
      (∀ g, Instr.restoreTimerExpiry g ∈ s.dueEvents ↔ timerDue s.now (s.group g).restoreTimer = true) := by
  simp only [mem_dueEvents, mem_channelEvents, mem_entry_events]
  refine ⟨fun i level => ?_, fun v => ?_, fun g => ?_⟩
  · simp only [reduceCtorEq, and_false, or_false, false_or, exists_false, Instr.faultSample.injEq]
    constructor
    · rintro ⟨j, came, rfl, rfl⟩
      exact ⟨came, rfl⟩
    · rintro ⟨came, rfl⟩
      exact ⟨i, came, rfl, rfl⟩
  · simp
  · simp

/-- Settles O3: the step's cases, the due events one by one, the decoder's turn. -/
theorem idleStepsGoOn : Obligations.IdleStepsGoOn := by
  refine ⟨fun s none => ⟨fun reset => ?_, fun f rest ready inbox => ?_, fun running waits => ?_⟩, advance_eq,
    fun now t => ⟨decide_eq_true_iff, rfl, rfl⟩, fun s => ?_,
    fun s => ⟨inReset_iff s, decoderReady_iff s, takes_iff s,
      fun f waits => exec_order_waits (commandFrame_orderCommand f) waits, settle_done, fun f rest => exec_takes⟩⟩
  · rw [step_idle none, idle_reset reset]
  · rw [step_idle none, idle_takes ready inbox]
  · refine ⟨s.tick, by rw [step_idle none, idle_tick running waits], ?_, tick_pending s, tick_eq s⟩
    exact congrArg State.now (tick_eq s)
  · obtain ⟨gap, link, sent, stall⟩ := dueEvents_link s
    obtain ⟨samples, rail, restores⟩ := dueEvents_trip s
    refine ⟨gap, link, sent, stall, fun o => ?_, samples, rail, restores, dueEvents_kinds s⟩
    obtain ⟨boost, maxOn, recover, defer⟩ := dueEvents_channel s o
    exact ⟨boost, maxOn, recover, defer, dueEvents_shots s o⟩

end Sys2Proof.Laws.Idle
end

section
/-! SUPPORT. The channels' rules: a demand rise by what the set answers, the beginning and the end of a drive, and the
demand a MANUAL order moves. -/

namespace Sys2Proof.Laws.Channels

open Sys2Proof Sys2Proof.Machine Sys2Proof.Laws.Drive Sys2Proof.Laws.Sets Sys2Proof.Laws.Modes

variable {s : State} {o : Output}

/-! ## A demand rise in OFF -/

section rise

variable {i : SetId} (g : Origin)

theorem riseFromOff_no_set (set : (s.profile o).iset = none) :
    s.riseFromOff o g = (.driven, (s.setChan o { s.chan o with demand := some g }).beginDrive o) := by
  simp only [State.riseFromOff, set]

theorem riseFromOff_room (set : (s.profile o).iset = some i)
    (room : (s.iset i).occupants.length < (s.iset i).capacity) :
    s.riseFromOff o g =
      (.driven, ((s.setChan o { s.chan o with demand := some g }).setIset i
        { s.iset i with occupants := insertOutput o (s.iset i).occupants }).beginDrive o) := by
  have has : (s.iset i).room = true := decide_eq_true room
  simp only [State.riseFromOff, set, has, if_true]
  rfl

theorem riseFromOff_queued (set : (s.profile o).iset = some i)
    (full : (s.iset i).capacity ≤ (s.iset i).occupants.length) (limit : (s.iset i).deferLimit ≠ 0) :
    s.riseFromOff o g =
      (.queued, (s.setIset i { s.iset i with grants := (s.iset i).grants ++ [o] }).setChan o
        { s.chan o with
          demand := some g, state := .queued
          deferTimer := some (s.now + BitVec.ofNat 32 (s.iset i).deferLimit) }) := by
  have none : (s.iset i).room = false := decide_eq_false (Nat.not_lt.mpr full)
  simp only [State.riseFromOff, set, none, limit, Bool.false_eq_true, if_false, ne_eq, not_false_eq_true, if_true,
    State.joinGrants, State.setChan_iset, State.setChan_setIset,
    State.setChan_setChan]
  rfl

theorem riseFromOff_refused (set : (s.profile o).iset = some i)
    (full : (s.iset i).capacity ≤ (s.iset i).occupants.length) (limit : (s.iset i).deferLimit = 0) :
    s.riseFromOff o g =
      (.refused, ((s.setChan o { s.chan o with demand := some g }).captureConflict o i g).setChan o
        { s.chan o with demand := none }) := by
  have none : (s.iset i).room = false := decide_eq_false (Nat.not_lt.mpr full)
  simp only [State.riseFromOff, set, none, limit, Bool.false_eq_true, if_false, ne_eq, not_true_eq_false]

end rise

/-! ## The conflict captured -/

section conflict

variable (i : SetId) (g : Origin)

theorem captureConflict_chan (s : State) (o p : Output) : (s.captureConflict o i g).chan p = s.chan p := by
  rw [captureConflict_frame]; rfl

theorem captureConflict_profile (s : State) (o p : Output) : (s.captureConflict o i g).profile p = s.profile p := by
  rw [captureConflict_frame]; rfl

theorem captureConflict_queue (s : State) (o p : Output) : (s.captureConflict o i g).queue p = s.queue p := by
  rw [captureConflict_frame]; rfl

theorem captureConflict_pass (s : State) (o p : Output) : (s.captureConflict o i g).pass p = s.pass p := by
  rw [captureConflict_frame]; rfl

theorem captureConflict_now (s : State) (o : Output) : (s.captureConflict o i g).now = s.now := by
  rw [captureConflict_frame]

end conflict

/-- Settles O23: the set's answer by its room and its defer limit, the conflict by the record and the policy. -/
theorem setAnswersAndCaptures : Obligations.SetAnswersAndCaptures := by
  refine ⟨fun s o i g set => ⟨fun room => riseFromOff_room g set room, fun full limit => riseFromOff_queued g set full limit,
      fun full limit => riseFromOff_refused g set full limit⟩,
    fun s o i g => ⟨fun none => ?_, fun old present policy => ?_, fun old present policy => ?_⟩,
    fun o os => ⟨fun x => mem_insertOutput, pairwise_insertOutput⟩⟩
  · simp only [State.captureConflict, none]
  · simp only [State.captureConflict, present, policy]
  · simp only [State.captureConflict, present, policy]

/-! ## The beginning of a drive, and the place it leaves -/

theorem reportBegun_deferred {tag : Word16} {e : Entry} {rest : List Entry} (queue : s.queue o = e :: rest)
    (deferred : e.state = .deferred) :
    s.reportBegun o (some (.shot tag)) = s.setQueue o ({ e with state := .active s.now } :: rest) := by
  simp only [State.reportBegun, queue, deferred, if_true]

theorem reportBegun_none {d : Option Origin}
    (h : (∀ tag, d ≠ some (.shot tag)) ∨ ∀ e ∈ (s.queue o).head?, e.state ≠ .deferred) : s.reportBegun o d = s := by
  unfold State.reportBegun
  split
  · rename_i tag
    cases queue : s.queue o with
    | nil => rfl
    | cons e rest =>
      have other := h.resolve_left (fun no => no tag rfl) e (by rw [queue]; rfl)
      simp only [other, if_false]
  · rfl

theorem beginDrive_begun {d : Option Origin} (demand : (s.chan o).demand = d)
    (h : (∀ tag, d ≠ some (.shot tag)) ∨ ∀ e ∈ (s.queue o).head?, e.state ≠ .deferred) :
    s.beginDrive o = s.setChan o (begun (s.chan o) s.now (s.profile o)) := by
  subst demand
  exact reportBegun_none (s := s.setChan o (begun (s.chan o) s.now (s.profile o))) h

/-- Settles O24: the drive's beginning by the head it finds, the place by who waits for it. -/
theorem driveBeginsAndPlacesPass : Obligations.DriveBeginsAndPlacesPass := by
  refine ⟨fun s o => ⟨fun tag e rest demand queue deferred => ?_, fun h => beginDrive_begun rfl h⟩,
    fun s o => ⟨releasePlace_no_set, fun i set => ⟨fun none => ?_, fun h rest waits => ?_⟩⟩⟩
  · have begins := reportBegun_deferred (s := s.setChan o (begun (s.chan o) s.now (s.profile o))) (tag := tag) queue
      deferred
    rw [← demand] at begins
    exact begins
  · exact releasePlace_nobody set none
  · exact releasePlace_granted set waits

end Sys2Proof.Laws.Channels
end

section
/-! SUPPORT. The demand fall by the state it finds, and SET_PROFILE with the recover timer it moves. -/

namespace Sys2Proof.Laws.Channels

open Sys2Proof Sys2Proof.Machine Sys2Proof.Laws.Drive Sys2Proof.Laws.Invariants Sys2Proof.Laws.Modes Sys2Proof.Laws.Reads

variable {s : State} {o : Output}

/-! ## The demand fall -/

theorem driving_iff (c : Channel) : c.driving = true ↔ c.state = .boost ∨ c.state = .hold := by
  simp [Channel.driving]

theorem releasePlace_profile (s : State) (o p : Output) : (s.releasePlace o).profile p = s.profile p := by
  have frame := congrArg State.profiles (releasePlace_inners s o).frame
  exact profile_of_profiles frame p

theorem stopDrive_profile (s : State) (o p : Output) (f : Channel → Channel) :
    (s.stopDrive o f).profile p = s.profile p := releasePlace_profile ..

/-- A report of a free channel, for a state with the same profile. -/
theorem reportFree_eq {t : State} (profile : t.profile o = s.profile o) :
    t.reportFree o = if (s.profile o).source = .shot then t.look o else t := by
  rw [State.reportFree, profile]

section fall

theorem demandFall_queued {i : SetId} (state : (s.chan o).state = .queued) (set : (s.profile o).iset = some i) :
    s.demandFall o =
      (true, ((s.setIset i { s.iset i with grants := (s.iset i).grants.erase o }).setChan o
        { s.chan o with state := .off, demand := none, deferTimer := none }).reportFree o) := by
  simp only [State.demandFall, state, State.withdraw, set, State.leaveGrants]

theorem demandFall_recovers (driving : (s.chan o).driving = true) (minOff : (s.profile o).minOff ≠ 0) :
    s.demandFall o = (false, s.stopDrive o fun c => { c with state := .recover, demand := none }) := by
  rcases (driving_iff _).mp driving with state | state <;> simp only [State.demandFall, state, minOff, if_false]

theorem demandFall_frees (driving : (s.chan o).driving = true) (minOff : (s.profile o).minOff = 0) :
    s.demandFall o =
      (false, (s.stopDrive o fun c => { c with state := .off, demand := none }).reportFree o) := by
  rcases (driving_iff _).mp driving with state | state <;> simp only [State.demandFall, state, minOff, if_true]

theorem demandFall_overtime (state : (s.chan o).state = .overtime) :
    s.demandFall o =
      (false, if (s.chan o).recoverTimer.isSome then s.setChan o { s.chan o with state := .recover, demand := none }
        else (s.setChan o { s.chan o with state := .off, demand := none }).reportFree o) := by
  simp only [State.demandFall, state]
  split <;> rfl

theorem demandFall_recover (state : (s.chan o).state = .recover) :
    s.demandFall o = ((s.chan o).remembered.isSome, s.setChan o { s.chan o with remembered := none }) := by
  simp only [State.demandFall, state]

theorem demandFall_idle (state : (s.chan o).state = .off ∨ (s.chan o).state = .inhibited) :
    s.demandFall o = (false, s) := by
  rcases state with state | state <;> simp only [State.demandFall, state]

end fall

/-- Settles O32: the fall by the state it finds. -/
theorem demandFallTaken : Obligations.DemandFallTaken := by
  refine fun s o => ⟨driving_iff _, fun i state set => ?_, fun driving minOff => demandFall_recovers driving minOff,
    fun driving minOff => ?_, fun state running => ?_, fun state stopped => ?_, demandFall_recover, demandFall_idle⟩
  · exact (demandFall_queued state set).trans (congrArg (Prod.mk true) (reportFree_eq rfl))
  · exact (demandFall_frees driving minOff).trans (congrArg (Prod.mk false) (reportFree_eq (stopDrive_profile ..)))
  · rw [demandFall_overtime state, if_pos (Option.isSome_iff_ne_none.mpr running)]
  · rw [demandFall_overtime state, if_neg (by simp [stopped])]
    exact congrArg (Prod.mk false) (reportFree_eq rfl)

/-! ## SET_PROFILE -/

theorem serves_iff {t : CamTable} : CamTable.serves t o = true ↔ ∃ i w, rd t i = some w ∧ w.output = o := by
  simp only [CamTable.serves, CamTable.findFor, List.find?_isSome, Bool.and_true, decide_eq_true_eq, Prod.exists,
    mem_windows]

section profile

variable {p : Profile}

theorem ownSetProfile_wrongMode (mode : s.mode ≠ .idle) : ownSetProfile (o, p) s = refuse s .wrongMode := by
  simp only [ownSetProfile, mode, ne_eq, not_false_eq_true, if_true]

theorem ownSetProfile_noAngle (mode : s.mode = .idle) (cam : p.source = .cam) (off : s.tracker.cycleLength = 0) :
    ownSetProfile (o, p) s = refuse s .noAngle := by
  simp only [ownSetProfile, mode, cam, off, ne_eq, not_true_eq_false, if_false, and_self, if_true]

theorem ownSetProfile_inUse (mode : s.mode = .idle) (new : p.source ≠ .cam) (old : (s.profile o).source = .cam)
    (held : CamTable.serves s.cam.active o = true ∨ CamTable.serves s.cam.shadow o = true) :
    ownSetProfile (o, p) s = refuse s .inUse := by
  simp only [ownSetProfile, mode, new, old, held, ne_eq, not_true_eq_false, not_false_eq_true, false_and, and_self,
    if_false, if_true]

theorem ownSetProfile_accepted (mode : s.mode = .idle) (angle : p.source = .cam → s.tracker.cycleLength ≠ 0)
    (unused : (s.profile o).source = .cam → p.source ≠ .cam →
      ¬ (CamTable.serves s.cam.active o = true ∨ CamTable.serves s.cam.shadow o = true)) :
    ownSetProfile (o, p) s =
      { state := (s.setProfile o p).setChan o
          { s.chan o with recoverTimer := (s.chan o).recoverUnder s.now (s.profile o).minOff p.minOff }
        body := .code .ok } := by
  have noAngle : ¬ (p.source = .cam ∧ s.tracker.cycleLength = 0) := fun ⟨cam, off⟩ => angle cam off
  have inUse : ¬ ((s.profile o).source = .cam ∧ p.source ≠ .cam ∧
      (CamTable.serves s.cam.active o = true ∨ CamTable.serves s.cam.shadow o = true)) :=
    fun ⟨old, new, held⟩ => unused old new held
  unfold ownSetProfile
  dsimp only
  rw [if_neg (by simp [mode]), if_neg noAngle, if_neg inUse]

end profile

/-- Settles O21: SET_PROFILE's checks in order, and the recover timer by what runs and what has passed. -/
theorem profileSetAndRecoverMoved : Obligations.ProfileSetAndRecoverMoved := by
  refine ⟨fun seq body s o p taken decoded => ?_, fun c now old new => ⟨fun runs same => ?_, fun stop runs last moved ahead => ?_,
    fun stop runs last moved passed => ?_, fun stop stopped last raised left => ?_, fun stop stopped last kept => ?_,
    fun stopped none => ?_⟩⟩
  · have answered {x : Answer} (h : ownSetProfile (o, p) s = x) :
        exec (.setProfile seq body) s = .next (x.state.answer ⟨seq, 0x20, body⟩ x.body x.bound) :=
      order_answered taken decoded h
    intro refused held
    have holds : (CamTable.serves s.cam.active o = true ∨ CamTable.serves s.cam.shadow o = true) ↔ held :=
      serves_iff.or serves_iff
    exact ⟨fun mode => answered (ownSetProfile_wrongMode mode),
      fun mode cam off => answered (ownSetProfile_noAngle mode cam off),
      fun mode new was held => answered (ownSetProfile_inUse mode new was (holds.mpr held)),
      fun mode angle unused => answered (ownSetProfile_accepted mode angle fun was new held =>
        unused was new (holds.mp held))⟩
  · obtain ⟨e, timer⟩ := Option.ne_none_iff_exists'.mp runs
    cases last : c.lastStop <;> simp only [Channel.recoverUnder, timer, last, same, if_true]
  · obtain ⟨e, timer⟩ := Option.ne_none_iff_exists'.mp runs
    have later : due now (after stop new) = false := ahead
    simp only [Channel.recoverUnder, timer, last, moved, later, Bool.false_eq_true, if_false]
    rfl
  · obtain ⟨e, timer⟩ := Option.ne_none_iff_exists'.mp runs
    have come : due now (after stop new) = true := passed
    simp only [Channel.recoverUnder, timer, last, moved, come, if_false, if_true]
  · simp only [Channel.recoverUnder, stopped, last, raised, left, and_self, if_true]
    rfl
  · have not : ¬ (old < new ∧ (now - stop).toNat < new) := by omega
    simp only [Channel.recoverUnder, stopped, last, not, if_false]
  · simp only [Channel.recoverUnder, stopped, none]

end Sys2Proof.Laws.Channels
end

section
/-! SUPPORT. MANUAL: what the demand moved leaves, by the state it finds. -/

namespace Sys2Proof.Laws.Manual

open Sys2Proof Sys2Proof.Machine Sys2Proof.Laws.Drive Sys2Proof.Laws.Channels Sys2Proof.Laws.Modes Sys2Proof.Laws.Reads

variable {s : State} {o : Output} {on : Bool}

/-! ## The order -/

theorem ownManual_wrongMode (mode : s.mode ≠ .run) : ownManual (o, on) s = refuse s .wrongMode := by
  simp only [ownManual, mode, ne_eq, not_false_eq_true, if_true]

theorem ownManual_wrongSource (mode : s.mode = .run) (source : (s.profile o).source ≠ .manual) :
    ownManual (o, on) s = refuse s .wrongSource := by
  simp only [ownManual, mode, source, ne_eq, not_true_eq_false, not_false_eq_true, if_false, if_true]

theorem ownManual_inhibited (mode : s.mode = .run) (source : (s.profile o).source = .manual)
    (state : (s.chan o).state = .inhibited) : ownManual (o, true) s = refuse s .inhibited := by
  simp only [ownManual, mode, source, state, ne_eq, not_true_eq_false, and_self, if_false, if_true]

/-- An accepted MANUAL answers the channel as the moved demand leaves it. -/
theorem ownManual_accepted {t : State} {state : ChannelState} {present : Bool} (mode : s.mode = .run)
    (source : (s.profile o).source = .manual) (free : on = true → (s.chan o).state ≠ .inhibited)
    (moved : s.takeManual o on = t) (after : (t.chan o).state = state) (demand : (t.chan o).manualDemand = present) :
    ownManual (o, on) s = { state := t, body := .manual state present } := by
  have accepted : ¬ (on = true ∧ (s.chan o).state = .inhibited) := fun ⟨yes, inhibited⟩ => free yes inhibited
  subst moved after demand
  unfold ownManual
  rw [if_neg (by simp [mode]), if_neg (by simp [source]), if_neg accepted]

/-! ## The demand moved -/

theorem takeManual_stands (same : (s.chan o).manualDemand = on) : s.takeManual o on = s := by
  simp only [State.takeManual, same, if_true]

theorem takeManual_rises (was : (s.chan o).manualDemand = false) :
    s.takeManual o true = (s.setChan o { s.chan o with manualDemand := true }).demandRise o .manual := by
  simp only [State.takeManual, was, Bool.false_eq_true, if_false, if_true, State.setManual]

theorem takeManual_falls (was : (s.chan o).manualDemand = true) :
    s.takeManual o false = ((s.setChan o { s.chan o with manualDemand := false }).demandFall o).2 := by
  simp only [State.takeManual, was, Bool.true_eq_false, Bool.false_eq_true, if_false, State.setManual]

/-- A rise in OFF, once the set has answered. -/
theorem demandRise_off {g : Origin} {r : Rise} {t : State} (state : (s.chan o).state = .off)
    (risen : s.riseFromOff o g = (r, t)) :
    s.demandRise o g = if r = .refused then t.reportRefused o (some g) else t := by
  simp only [State.demandRise, state, risen]
  cases r <;> rfl

theorem demandRise_recover {g : Origin} (state : (s.chan o).state = .recover) :
    s.demandRise o g = s.setChan o { s.chan o with remembered := some g } := by
  simp only [State.demandRise, state]

section rises

variable {i : SetId} (state : (s.chan o).state = .off) (was : (s.chan o).manualDemand = false)
include state was

/-- The record as a manual demand rises from OFF. -/
def raised (c : Channel) : Channel := { c with manualDemand := true, demand := some .manual }

theorem takeManual_drives (set : (s.profile o).iset = none) :
    s.takeManual o true = s.setChan o (begun (raised (s.chan o)) s.now (s.profile o)) := by
  have risen := riseFromOff_no_set (s := s.setChan o { s.chan o with manualDemand := true }) .manual set
  rw [takeManual_rises was, demandRise_off (by simpa using state) risen, if_neg (by simp)]
  rw [State.setChan_setChan, State.setChan_chan_self,
    beginDrive_begun (d := some .manual) (by simp) (.inl (by simp)), State.setChan_chan_self, State.setChan_setChan]
  rfl

theorem takeManual_room (set : (s.profile o).iset = some i)
    (room : (s.iset i).occupants.length < (s.iset i).capacity) :
    s.takeManual o true =
      ((s.setChan o (raised (s.chan o))).setIset i
        { s.iset i with occupants := insertOutput o (s.iset i).occupants }).beginDrive o := by
  have risen := riseFromOff_room (s := s.setChan o { s.chan o with manualDemand := true }) .manual set room
  rw [takeManual_rises was, demandRise_off (by simpa using state) risen, if_neg (by simp)]
  rw [State.setChan_setChan, State.setChan_chan_self]
  rfl

theorem takeManual_queued (set : (s.profile o).iset = some i)
    (full : (s.iset i).capacity ≤ (s.iset i).occupants.length) (limit : (s.iset i).deferLimit ≠ 0) :
    s.takeManual o true =
      (s.setIset i { s.iset i with grants := (s.iset i).grants ++ [o] }).setChan o
        { raised (s.chan o) with
          state := .queued, deferTimer := some (s.now + BitVec.ofNat 32 (s.iset i).deferLimit) } := by
  have risen := riseFromOff_queued (s := s.setChan o { s.chan o with manualDemand := true }) .manual set full limit
  rw [takeManual_rises was, demandRise_off (by simpa using state) risen, if_neg (by simp)]
  rw [State.setChan_setIset, State.setChan_setChan, State.setChan_chan_self]
  rfl

theorem takeManual_refused (set : (s.profile o).iset = some i)
    (full : (s.iset i).capacity ≤ (s.iset i).occupants.length) (limit : (s.iset i).deferLimit = 0) :
    s.takeManual o true =
      (((s.setChan o (raised (s.chan o))).captureConflict o i .manual).setChan o
        { s.chan o with manualDemand := false, demand := none }).post (.manualDropped o (some i) s.now) := by
  have risen := riseFromOff_refused (s := s.setChan o { s.chan o with manualDemand := true }) .manual set full limit
  rw [takeManual_rises was, demandRise_off (by simpa using state) risen, if_pos rfl]
  simp only [State.reportRefused, State.setChan_setChan, State.setChan_chan_self, State.setChan_profile,
    captureConflict_profile, set, State.setChan_now, captureConflict_now]
  rfl

end rises

section falls

/-- The record as a manual demand ends a drive. -/
def stoppedManual (c : Channel) (now : Time) (minOff : Nat) : Channel :=
  { c with
    manualDemand := false, demand := none, boostTimer := none, maxOnTimer := none, lastStop := some now
    state := if minOff = 0 then .off else .recover
    recoverTimer := if minOff = 0 then none else some (now + BitVec.ofNat 32 minOff) }

theorem takeManual_stops (driving : (s.chan o).driving = true) (was : (s.chan o).manualDemand = true)
    (source : (s.profile o).source = .manual) :
    s.takeManual o false = (s.setChan o (stoppedManual (s.chan o) s.now (s.profile o).minOff)).releasePlace o := by
  have drives : ((s.setChan o { s.chan o with manualDemand := false }).chan o).driving = true := by
    rw [State.setChan_chan_self]
    exact driving
  rw [takeManual_falls was]
  by_cases minOff : (s.profile o).minOff = 0
  · rw [demandFall_frees drives minOff, reportFree_other (by rw [stopDrive_profile, State.setChan_profile, source]; simp)]
    simp only [State.stopDrive, State.setChan_chan_self, State.setChan_setChan, State.setChan_now, State.setChan_profile,
      Channel.stopped, stoppedManual, minOff, if_true]
  · rw [demandFall_recovers drives minOff]
    simp only [State.stopDrive, State.setChan_chan_self, State.setChan_setChan, State.setChan_now, State.setChan_profile,
      Channel.stopped, stoppedManual, minOff, if_false]
    rfl

theorem takeManual_overtime (was : (s.chan o).manualDemand = true) (overtime : (s.chan o).state = .overtime) :
    s.takeManual o false =
      if (s.chan o).recoverTimer.isSome then
        s.setChan o { s.chan o with manualDemand := false, demand := none, state := .recover }
      else (s.setChan o { s.chan o with manualDemand := false, demand := none, state := .off }).reportFree o := by
  rw [takeManual_falls was, demandFall_overtime (by simpa using overtime), State.setChan_setChan,
    State.setChan_setChan, State.setChan_chan_self]

theorem takeManual_leaves {i : SetId} (was : (s.chan o).manualDemand = true) (queued : (s.chan o).state = .queued)
    (set : (s.profile o).iset = some i) :
    s.takeManual o false =
      ((s.setIset i { s.iset i with grants := (s.iset i).grants.erase o }).setChan o
        { s.chan o with manualDemand := false, state := .off, demand := none, deferTimer := none }).reportFree o := by
  rw [takeManual_falls was, demandFall_queued (s := s.setChan o { s.chan o with manualDemand := false }) (i := i)
    (by simpa using queued) set, State.setChan_setIset, State.setChan_setChan, State.setChan_chan_self]
  rfl

end falls

/-- A place that passes on leaves every manual demand. -/
theorem releasePlace_manualDemand (s : State) (o p : Output) :
    ((s.releasePlace o).chan p).manualDemand = (s.chan p).manualDemand := by
  cases set : (s.profile o).iset with
  | none => rw [releasePlace_no_set set]
  | some i =>
    cases waits : (s.iset i).grants with
    | nil => rw [releasePlace_nobody set waits]; rfl
    | cons h rest =>
      rw [releasePlace_granted set waits, beginDrive_chan]
      split
      · rename_i same
        rw [same]
        rfl
      · rfl

theorem post_chan (s : State) (b : NoticeBody) (p : Output) : (s.post b).chan p = s.chan p := by
  rw [post_frame]; rfl

/-- Settles O22: MANUAL's checks in order, then the demand moved by the state it finds. -/
theorem manualMovesDemand : Obligations.ManualMovesDemand := by
  intro seq body s o on taken decoded f c p
  have answered {x : Answer} (h : ownManual (o, on) s = x) :
      exec (.manual seq body) s = .next (x.state.answer f x.body x.bound) :=
    order_answered taken decoded h
  refine ⟨fun mode => answered (ownManual_wrongMode mode), fun mode source => answered (ownManual_wrongSource mode source),
    fun mode source => ?_⟩
  have moves {t : State} {state : ChannelState} {present : Bool} (free : on = true → c.state ≠ .inhibited)
      (moved : s.takeManual o on = t) (after : (t.chan o).state = state) (demand : (t.chan o).manualDemand = present) :
      exec (.manual seq body) s = .next (t.answer f (.manual state present) .nothing) :=
    answered (ownManual_accepted mode source free moved after demand)
  have quiet (t : State) (profile : t.profile o = s.profile o) : t.reportFree o = t :=
    reportFree_other (by rw [profile, source]; simp)
  refine ⟨?_, fun free same => ?_, ?_, ?_, ?_, ?_, ?_, ?_, ?_, ?_, ?_⟩
  · rintro rfl inhibited
    exact answered (ownManual_inhibited mode source inhibited)
  · exact moves free (takeManual_stands same) rfl same
  · rintro rfl off was set
    refine moves (by simp [off]) (takeManual_drives off was set) ?_ ?_
    · rw [State.setChan_chan_self]
    · rw [State.setChan_chan_self]
  · rintro rfl recover was
    refine moves (by simp [recover]) ((takeManual_rises was).trans ((demandRise_recover (by simpa using recover)).trans ?_))
      ?_ ?_ (t := s.setChan o { c with manualDemand := true, remembered := some .manual })
    · rw [State.setChan_setChan, State.setChan_chan_self]
    · rw [State.setChan_chan_self]; exact recover
    · rw [State.setChan_chan_self]
  · rintro rfl driving was set
    refine moves (by simp) ((takeManual_stops driving was source).trans (releasePlace_no_set set)) ?_ ?_
    · rw [State.setChan_chan_self]
    · rw [State.setChan_chan_self]
  · rintro rfl overtime was running
    refine moves (by simp) ((takeManual_overtime was overtime).trans
      (if_pos (Option.isSome_iff_ne_none.mpr running))) ?_ ?_
    · rw [State.setChan_chan_self]
    · rw [State.setChan_chan_self]
  · rintro i rfl off was set
    refine ⟨fun room => ?_, fun full limit => ?_, fun full limit => ?_⟩
    · refine moves (by simp [off]) (takeManual_room off was set room) ?_ ?_
      · rw [beginDrive_chan, if_pos rfl]; rfl
      · rw [beginDrive_chan, if_pos rfl, State.setIset_chan, State.setChan_chan_self]; rfl
    · refine moves (by simp [off]) (takeManual_queued off was set full limit) ?_ ?_
      · rw [State.setChan_chan_self]
      · rw [State.setChan_chan_self]
    · refine moves (by simp [off]) (takeManual_refused off was set full limit) ?_ ?_
      · rw [post_chan, State.setChan_chan_self]; exact off
      · rw [post_chan, State.setChan_chan_self]
  · rintro i rfl driving was set
    refine moves (by simp) (takeManual_stops driving was source) rfl ?_
    rw [releasePlace_manualDemand, State.setChan_chan_self]
  · rintro i rfl queued was set
    refine moves (by simp) ((takeManual_leaves was queued set).trans (quiet _ rfl)) ?_ ?_
    · rw [State.setChan_chan_self]
    · rw [State.setChan_chan_self]
  · rintro rfl recover was
    refine moves (by simp) ((takeManual_falls was).trans ?_) ?_ ?_
      (t := s.setChan o { c with manualDemand := false, remembered := none })
    · rw [demandFall_recover (by simpa using recover), State.setChan_setChan, State.setChan_chan_self]
    · rw [State.setChan_chan_self]; exact recover
    · rw [State.setChan_chan_self]
  · rintro rfl overtime was stopped
    have idle : ¬ (s.chan o).recoverTimer.isSome = true := Option.not_isSome_iff_eq_none.mpr stopped
    refine moves (by simp) ((takeManual_overtime was overtime).trans ((if_neg idle).trans (quiet _ rfl))) ?_ ?_
    · rw [State.setChan_chan_self]
    · rw [State.setChan_chan_self]

end Sys2Proof.Laws.Manual
end

section
/-! SUPPORT. The channel timers, and the pins. -/

namespace Sys2Proof.Laws.Timers

open Sys2Proof Sys2Proof.Machine Sys2Proof.Laws.Drive Sys2Proof.Laws.Channels Sys2Proof.Laws.Modes

variable {s : State} {o : Output}

/-! ## The boost, max-on and recover timers -/

theorem exec_boost (running : s.inReset = false) : exec (.boostTimerExpiry o) s = .next (s.boostExpiry o) :=
  event_taken (f := (·.boostExpiry o)) running

theorem exec_maxOn (running : s.inReset = false) : exec (.maxOnTimerExpiry o) s = .next (s.maxOnExpiry o) :=
  event_taken (f := (·.maxOnExpiry o)) running

theorem exec_recover (running : s.inReset = false) : exec (.recoverTimerExpiry o) s = .next (s.recoverExpiry o) :=
  event_taken (f := (·.recoverExpiry o)) running

theorem exec_defer (running : s.inReset = false) : exec (.deferTimerExpiry o) s = .next (s.deferExpiry o) :=
  event_taken (f := (·.deferExpiry o)) running

theorem boostExpiry_due (due : timerDue s.now (s.chan o).boostTimer = true) (state : (s.chan o).state = .boost) :
    s.boostExpiry o = s.setChan o { s.chan o with state := .hold, boostTimer := none, holdPhase := 0 } := by
  simp only [State.boostExpiry, due, state, and_self, if_true]

theorem boostExpiry_early (early : timerDue s.now (s.chan o).boostTimer = false) : s.boostExpiry o = s := by
  simp only [State.boostExpiry, early, Bool.false_eq_true, false_and, if_false]

theorem maxOnExpiry_due (due : timerDue s.now (s.chan o).maxOnTimer = true) (driving : (s.chan o).driving = true) :
    s.maxOnExpiry o =
      (s.stopDrive o fun c => { c with state := .overtime }).post
        (.overtime o (s.chan o).demand (s.chan o).driveStart s.now) := by
  simp only [State.maxOnExpiry, due, driving, and_self, if_true]

theorem maxOnExpiry_early (early : timerDue s.now (s.chan o).maxOnTimer = false) : s.maxOnExpiry o = s := by
  simp only [State.maxOnExpiry, early, Bool.false_eq_true, false_and, if_false]

theorem recoverExpiry_ends (due : timerDue s.now (s.chan o).recoverTimer = true) (state : (s.chan o).state = .recover)
    (absent : (s.chan o).remembered = none) :
    s.recoverExpiry o = (s.setChan o { s.chan o with state := .off, recoverTimer := none }).reportFree o := by
  simp only [State.recoverExpiry, due, state, absent, if_true]

theorem recoverExpiry_rises {g : Origin} (due : timerDue s.now (s.chan o).recoverTimer = true)
    (state : (s.chan o).state = .recover) (remembered : (s.chan o).remembered = some g) :
    s.recoverExpiry o =
      (s.setChan o { s.chan o with state := .off, recoverTimer := none, remembered := none }).demandRise o g := by
  simp only [State.recoverExpiry, due, state, remembered, if_true]

theorem recoverExpiry_elsewhere (due : timerDue s.now (s.chan o).recoverTimer = true)
    (state : (s.chan o).state ≠ .recover) :
    s.recoverExpiry o = s.setChan o { s.chan o with recoverTimer := none } := by
  simp only [State.recoverExpiry, due, state, if_true, if_false]

theorem recoverExpiry_early (early : timerDue s.now (s.chan o).recoverTimer = false) : s.recoverExpiry o = s := by
  simp only [State.recoverExpiry, early, Bool.false_eq_true, if_false]

/-! ## The defer timer -/

/-- What a channel leaves as its wait ends: the grant list, the conflict, the channel in OFF. -/
def waitEnded (s : State) (o : Output) (i : SetId) (g : Origin) : State :=
  ((s.setIset i { s.iset i with grants := (s.iset i).grants.erase o }).captureConflict o i g).setChan o
    { s.chan o with state := .off, demand := none, deferTimer := none }

section waiting

variable {i : SetId} {g : Origin}

theorem deferExpiry_due (due : timerDue s.now (s.chan o).deferTimer = true) (state : (s.chan o).state = .queued)
    (set : (s.profile o).iset = some i) (demand : (s.chan o).demand = some g) :
    s.deferExpiry o = (waitEnded s o i g).reportRefused o (some g) := by
  simp only [State.deferExpiry, due, state, set, demand, and_self, if_true, State.leaveGrants, waitEnded]

theorem deferExpiry_early (early : timerDue s.now (s.chan o).deferTimer = false) : s.deferExpiry o = s := by
  simp only [State.deferExpiry, early, Bool.false_eq_true, false_and, if_false]

theorem waitEnded_profile : (waitEnded s o i g).profile o = s.profile o := captureConflict_profile ..

theorem waitEnded_now : (waitEnded s o i g).now = s.now := captureConflict_now ..

theorem waitEnded_pass : (waitEnded s o i g).pass o = s.pass o := captureConflict_pass ..

theorem waitEnded_queue : (waitEnded s o i g).queue o = s.queue o := captureConflict_queue ..

/-- MANUAL loses its manual demand with the refusal. -/
theorem refused_manual (set : (s.profile o).iset = some i) :
    (waitEnded s o i .manual).reportRefused o (some .manual) =
      ((waitEnded s o i .manual).setChan o
        { s.chan o with state := .off, demand := none, deferTimer := none, manualDemand := false }).post
          (.manualDropped o (some i) s.now) := by
  have record : (waitEnded s o i .manual).chan o =
      { s.chan o with state := .off, demand := none, deferTimer := none } := State.setChan_chan_self ..
  simp only [State.reportRefused, record, waitEnded_profile, set, waitEnded_now]

/-- The Cam Unit ends the pass. -/
theorem refused_cam {slot : Slot} {p : Pass} (pass : s.pass o = some p) :
    (waitEnded s o i (.cam slot)).reportRefused o (some (.cam slot)) =
      ((waitEnded s o i (.cam slot)).setPass o none).post
        (.camSkipped o p.slot p.entryCycle .deferExpired s.now) := by
  simp only [State.reportRefused, waitEnded_pass, pass, waitEnded_now]

/-- The Shot Scheduler drops the head and looks at the next. -/
theorem refused_shot {tag : Word16} {e : Entry} {rest : List Entry} (queue : s.queue o = e :: rest)
    (source : (s.profile o).source = .shot) :
    (waitEnded s o i (.shot tag)).reportRefused o (some (.shot tag)) =
      (((waitEnded s o i (.shot tag)).setQueue o rest).post
        (.shotDropped o e.tag .deferExpired e.start e.grace s.now)).look o := by
  have profile : (((waitEnded s o i (.shot tag)).setQueue o rest).postShotDropped o e .deferExpired).profile o =
      s.profile o := by
    unfold State.postShotDropped
    rw [post_frame]
    exact waitEnded_profile
  simp only [State.reportRefused, waitEnded_queue, queue]
  rw [reportFree_shot (by rw [profile]; exact source), State.postShotDropped, State.setQueue_now, waitEnded_now]

end waiting

/-- Settles O25: each timer where it is due and where it is not. -/
theorem channelTimersTaken : Obligations.ChannelTimersTaken := by
  refine ⟨fun s o running => ?_, fun s o i g running => ⟨fun early => ?_, fun due state set demand => ⟨?_, ?_, ?_⟩⟩⟩
  · refine ⟨fun due state => ?_, fun early => ?_, fun due driving => ?_, fun early => ?_, fun due state absent source => ?_,
      fun due state absent source => ?_, fun g due state remembered => ?_, fun due state => ?_, fun early => ?_⟩
    · rw [exec_boost running, boostExpiry_due due state]
    · rw [exec_boost running, boostExpiry_early early]
    · rw [exec_maxOn running, maxOnExpiry_due due driving]
      rfl
    · rw [exec_maxOn running, maxOnExpiry_early early]
    · rw [exec_recover running, recoverExpiry_ends due state absent, reportFree_other (by exact source)]
    · rw [exec_recover running, recoverExpiry_ends due state absent, reportFree_shot (by exact source)]
    · rw [exec_recover running, recoverExpiry_rises due state remembered]
    · rw [exec_recover running, recoverExpiry_elsewhere due state]
    · rw [exec_recover running, recoverExpiry_early early]
  · rw [exec_defer running, deferExpiry_early early]
  · rintro rfl
    rw [exec_defer running, deferExpiry_due due state set demand, refused_manual set]
    rfl
  · rintro slot p rfl pass
    rw [exec_defer running, deferExpiry_due due state set demand, refused_cam pass]
    rfl
  · rintro tag e rest rfl queue source
    rw [exec_defer running, deferExpiry_due due state set demand, refused_shot queue source]
    rfl

/-! ## The pins -/

theorem pinLevel_running (running : s.inReset = false) (half : Nat) :
    s.pinLevel o half =
      if (s.chan o).pinActive (s.profile o).duty half then activeLevelOf (s.profile o).polarity
      else (activeLevelOf (s.profile o).polarity).other := by
  simp only [State.pinLevel, running, Bool.false_eq_true, if_false]

theorem lineBits_length (b : Byte) : (lineBits b).length = 10 := rfl

/-- Each byte takes ten places on the line. -/
theorem flatMap_lineBits (bytes : List Byte) (n k : Nat) (h : k < 10) :
    (bytes.flatMap lineBits)[10 * n + k]? = bytes[n]?.bind fun b => (lineBits b)[k]? := by
  induction bytes generalizing n with
  | nil => simp
  | cons b bytes ih =>
    rw [List.flatMap_cons]
    cases n with
    | zero =>
      rw [List.getElem?_append_left (by rw [lineBits_length]; omega)]
      simp
    | succ n =>
      rw [List.getElem?_append_right (by rw [lineBits_length]; omega), lineBits_length,
        show 10 * (n + 1) + k - 10 = 10 * n + k by omega, ih]
      rfl

theorem flatMap_lineBits_length (bytes : List Byte) : (bytes.flatMap lineBits).length = 10 * bytes.length := by
  induction bytes with
  | nil => rfl
  | cons b bytes ih =>
    rw [List.flatMap_cons, List.length_append, ih, lineBits_length, List.length_cons]
    omega

/-- Settles O26: the pin by the channel's state, TXD by the byte and the bit in it. -/
theorem pinShowsChannel : Obligations.PinShowsChannel := by
  refine ⟨fun s o half running => ?_, fun b => rfl, fun s => ⟨fun idle => ?_, fun x sending gone => ?_,
    fun x n k b sending place small byte => ?_⟩⟩
  · intro active inactive
    have high : activeLevelOf (s.profile o).polarity = active := by
      cases polarity : (s.profile o).polarity <;> simp only [active, activeLevelOf, polarity]
    have low : (activeLevelOf (s.profile o).polarity).other = inactive := by
      cases polarity : (s.profile o).polarity <;> simp only [inactive, activeLevelOf, polarity, Level.other]
    refine ⟨fun state => ?_, fun state => ?_, fun notBoost notHold => ?_⟩ <;> rw [pinLevel_running running, low, high]
    · simp only [Channel.pinActive, state, if_true]
    · simp only [Channel.pinActive, state, decide_eq_true_eq]
      rfl
    · have quiet : (s.chan o).pinActive (s.profile o).duty half = false := by
        unfold Channel.pinActive
        split
        · contradiction
        · contradiction
        · rfl
      simp only [quiet, Bool.false_eq_true, if_false]
  · simp only [State.txdLevel, idle]
  · simp only [State.txdLevel, sending]
    rw [List.getD_eq_default _ _ (by rw [flatMap_lineBits_length]; exact gone)]
  · simp only [State.txdLevel, sending, place]
    have bit := flatMap_lineBits x.frame.bytes n k small
    rw [byte, Option.bind_some] at bit
    rw [← bit, List.getD_eq_getElem?_getD]
    have inside : 10 * n + k < (x.frame.bytes.flatMap lineBits).length := by
      have := (List.getElem?_eq_some_iff.mp byte).1
      rw [flatMap_lineBits_length]
      omega
    rw [List.getElem?_eq_getElem inside, Option.getD_some]

end Sys2Proof.Laws.Timers
end

section
/-! SUPPORT. The Shot Scheduler's own work: firing the head by what the set answers, the look at the head case by case, and
the due events of shots. -/

namespace Sys2Proof.Laws.Scheduler

open Sys2Proof Sys2Proof.Machine Sys2Proof.Laws.Drive Sys2Proof.Laws.Channels

variable {s : State} {o : Output} {e : Entry} {rest : List Entry}

/-! ## Entries and free channels -/

theorem served_iff (e : Entry) : e.served = true ↔ e.state = .deferred ∨ ∃ d, e.state = .active d := by
  unfold Entry.served
  cases e.state <;> simp

theorem driveStart_iff (e : Entry) (d : Time) : e.driveStart = some d ↔ e.state = .active d := by
  unfold Entry.driveStart
  cases e.state <;> simp

theorem channelFree_iff (s : State) (o : Output) :
    s.channelFree o = true ↔ (s.chan o).state = .off ∧ (s.chan o).demand = none := by
  simp [State.channelFree]

/-! ## Firing the head -/

section fire

variable {i : SetId}

theorem fireHead_no_set (set : (s.profile o).iset = none) :
    s.fireHead o e rest =
      (false, ((s.setChan o { s.chan o with demand := some (.shot e.tag) }).beginDrive o).setQueue o
        ({ e with state := .active s.now } :: rest)) := by
  simp only [State.fireHead, riseFromOff_no_set _ set]

theorem fireHead_room (set : (s.profile o).iset = some i)
    (room : (s.iset i).occupants.length < (s.iset i).capacity) :
    s.fireHead o e rest =
      (false, (((s.setChan o { s.chan o with demand := some (.shot e.tag) }).setIset i
        { s.iset i with occupants := insertOutput o (s.iset i).occupants }).beginDrive o).setQueue o
          ({ e with state := .active s.now } :: rest)) := by
  simp only [State.fireHead, riseFromOff_room _ set room]

theorem fireHead_queued (set : (s.profile o).iset = some i)
    (full : (s.iset i).capacity ≤ (s.iset i).occupants.length) (limit : (s.iset i).deferLimit ≠ 0) :
    s.fireHead o e rest =
      (false, ((s.setIset i { s.iset i with grants := (s.iset i).grants ++ [o] }).setChan o
        { s.chan o with
          demand := some (.shot e.tag), state := .queued
          deferTimer := some (s.now + BitVec.ofNat 32 (s.iset i).deferLimit) }).setQueue o
            ({ e with state := .deferred } :: rest)) := by
  simp only [State.fireHead, riseFromOff_queued _ set full limit]

theorem fireHead_refused (set : (s.profile o).iset = some i)
    (full : (s.iset i).capacity ≤ (s.iset i).occupants.length) (limit : (s.iset i).deferLimit = 0) :
    s.fireHead o e rest =
      (true, ((((s.setChan o { s.chan o with demand := some (.shot e.tag) }).captureConflict o i
        (.shot e.tag)).setChan o { s.chan o with demand := none }).setQueue o rest).post
          (.shotDropped o e.tag .deferExpired e.start e.grace s.now)) := by
  simp only [State.fireHead, riseFromOff_refused _ set full limit, State.postShotDropped, State.setQueue_now,
    State.setChan_now, captureConflict_now]

/-- A head dropped at once has left its queue. -/
theorem fireHead_dropped {t : State} (h : s.fireHead o e rest = (true, t)) : t.queue o = rest := by
  unfold State.fireHead at h
  split at h
  · simp at h
  · simp at h
  · obtain rfl := (Prod.mk.inj h).2
    rw [State.postShotDropped, post_queue, State.setQueue_queue_self]

end fire

/-! ## The look at the head -/

section look

theorem lookN_busy (n : Nat) (busy : s.channelFree o = false) : lookN n o s = s := by
  cases n with
  | zero => rfl
  | succ n => simp only [lookN, busy, Bool.false_eq_true, if_false]

theorem look_busy (busy : s.channelFree o = false) : s.look o = s := lookN_busy _ busy

theorem look_empty (queue : s.queue o = []) : s.look o = s := by
  simp only [State.look, queue, List.length_nil, lookN]

/-- A look bounded by the queue's length is the look. -/
theorem lookN_eq_look {t : State} {n : Nat} (h : (t.queue o).length = n) : lookN n o t = t.look o := by
  rw [State.look, h]

variable (queue : s.queue o = e :: rest)
include queue

theorem look_served (served : e.served = true) : s.look o = s := by
  cases free : s.channelFree o with
  | false => exact look_busy free
  | true =>
    rcases (served_iff e).mp served with state | ⟨d, state⟩ <;>
      simp only [State.look, queue, List.length_cons, lookN, free, if_true, state]

theorem look_waits (state : e.state = .waiting) (early : due s.now e.start = false) : s.look o = s := by
  cases free : s.channelFree o with
  | false => exact look_busy free
  | true =>
    simp only [State.look, queue, List.length_cons, lookN, free, if_true, state, early, Bool.false_eq_true, if_false]

/-- What a look leaves behind once it has fired a head: a head dropped at once leaves the next to be looked at. -/
def firedOn (o : Output) : Bool × State → State
  | (true, t) => t.look o
  | (false, t) => t

theorem look_fires_waiting (free : s.channelFree o = true) (state : e.state = .waiting) (due' : due s.now e.start = true) :
    s.look o = firedOn o (s.fireHead o e rest) := by
  simp only [State.look, queue, List.length_cons, lookN, free, if_true, state, due']
  match fired : s.fireHead o e rest with
  | (true, t) => exact lookN_eq_look (congrArg List.length (fireHead_dropped fired))
  | (false, t) => rfl

theorem look_drops {u : State} (free : s.channelFree o = true) (state : e.state = .late)
    (drops : s.lookDrops e = (true, u)) :
    s.look o = ((u.setQueue o rest).postShotDropped o e .lateDropped).look o := by
  simp only [State.look, queue, List.length_cons, lookN, free, if_true, state, drops]
  rw [State.postShotDropped, post_queue, State.setQueue_queue_self]

theorem look_fires_late {u : State} (free : s.channelFree o = true) (state : e.state = .late)
    (keeps : s.lookDrops e = (false, u)) : s.look o = firedOn o (u.fireHead o e rest) := by
  simp only [State.look, queue, List.length_cons, lookN, free, if_true, state, keeps]
  match fired : u.fireHead o e rest with
  | (true, t) => exact lookN_eq_look (congrArg List.length (fireHead_dropped fired))
  | (false, t) => rfl

end look

theorem lookDrops_apart (apart : e.dropTime ≠ s.now) : s.lookDrops e = (due s.now e.dropTime, s) := by
  simp only [State.lookDrops, apart, if_false]

theorem lookDrops_together {k : Nat} {u : State} (together : e.dropTime = s.now) (pick : s.takePick = (k, u)) :
    s.lookDrops e = (decide (k % 2 = 0), u) := by
  simp only [State.lookDrops, together, if_true, State.firstOfTwo, pick]

/-- A time is due at itself. -/
theorem due_self (t : Time) : due t t = true := by simp [due]

/-! ## The due events -/

section events

theorem exec_startDue (running : s.inReset = false) (start : Time) :
    exec (.shotStartDue o start) s = .next (s.startDue o start) :=
  event_taken (f := (·.startDue o start)) running

theorem exec_dropDue (running : s.inReset = false) (start : Time) :
    exec (.shotDropDue o start) s = .next (s.dropDue o start) :=
  event_taken (f := (·.dropDue o start)) running

theorem exec_endDue (running : s.inReset = false) : exec (.shotEndDue o) s = .next (s.endDue o) :=
  event_taken (f := (·.endDue o)) running

theorem startDue_early {start : Time} (early : due s.now start = false) : s.startDue o start = s := by
  simp only [State.startDue, early, Bool.false_eq_true, if_false]

theorem startDue_fires (queue : s.queue o = e :: rest) (came : due s.now e.start = true) (state : e.state = .waiting)
    (free : s.channelFree o = true) : s.startDue o e.start = firedOn o (s.fireHead o e rest) := by
  have waits : e.waitsFor e.start = true := by simp [Entry.waitsFor, state]
  simp only [State.startDue, came, queue, waits, free, and_self, if_true]
  match s.fireHead o e rest with
  | (true, t) => rfl
  | (false, t) => rfl

/-- A WAITING entry that does not fire goes LATE, and no other entry changes. -/
theorem startDue_late {pre post : List Entry} (queue : s.queue o = pre ++ e :: post) (came : due s.now e.start = true)
    (state : e.state = .waiting) (single : ∀ x ∈ pre ++ post, x.start ≠ e.start)
    (held : pre ≠ [] ∨ s.channelFree o = false) :
    s.startDue o e.start = s.setQueue o (pre ++ { e with state := .late } :: post) := by
  have waits : e.waitsFor e.start = true := by simp [Entry.waitsFor, state]
  have other : ∀ x ∈ pre ++ post, x.waitsFor e.start = false := fun x mem => by
    simp [Entry.waitsFor, single x mem]
  have mapped : (pre ++ e :: post).map (fun x => if x.waitsFor e.start then { x with state := .late } else x) =
      pre ++ { e with state := .late } :: post := by
    have same (l : List Entry) (sub : ∀ x ∈ l, x ∈ pre ++ post) :
        l.map (fun x => if x.waitsFor e.start then { x with state := .late } else x) = l := by
      refine (List.map_congr_left (g := id) fun x mem => ?_).trans (List.map_id l)
      rw [other x (sub x mem)]
      rfl
    rw [List.map_append, List.map_cons, same pre fun x mem => List.mem_append_left _ mem,
      same post fun x mem => List.mem_append_right _ mem, waits]
    rfl
  obtain ⟨h, t, head, no⟩ : ∃ h t, s.queue o = h :: t ∧ ¬ (h.waitsFor e.start = true ∧ s.channelFree o = true) := by
    cases pre with
    | nil =>
      have busy : s.channelFree o = false := held.resolve_left (by simp)
      exact ⟨e, post, queue, by simp [busy]⟩
    | cons x pre => exact ⟨x, pre ++ e :: post, queue, by simp [other x (by simp)]⟩
  simp only [State.startDue, came, head, no, if_true, if_false]
  rw [← head, queue, mapped]

theorem dropDue_early (queue : s.queue o = e :: rest) (state : e.state = .late)
    (early : due s.now e.dropTime = false) : s.dropDue o e.start = s := by
  have late : e.lateFor e.start = true := by simp [Entry.lateFor, state]
  have found : (s.queue o).find? (fun e' => e'.lateFor e.start) = some e := by
    rw [queue, List.find?_cons_of_pos late]
  simp only [State.dropDue, found, early, Bool.false_eq_true, if_false]

/-- The LATE entry is dropped, wherever it stands. -/
theorem dropDue_drops {pre post : List Entry} (queue : s.queue o = pre ++ e :: post) (state : e.state = .late)
    (came : due s.now e.dropTime = true) (first : ∀ x ∈ pre, x.state = .late → x.start ≠ e.start) :
    s.dropDue o e.start = (s.setQueue o (pre ++ post)).postShotDropped o e .lateDropped := by
  have late : e.lateFor e.start = true := by simp [Entry.lateFor, state]
  have other : ∀ x ∈ pre, ¬ x.lateFor e.start = true := fun x mem h => by
    simp only [Entry.lateFor, Bool.and_eq_true, decide_eq_true_eq] at h
    exact first x mem h.1 h.2
  have found : (s.queue o).find? (fun e' => e'.lateFor e.start) = some e := by
    rw [queue, List.find?_append, List.find?_eq_none.mpr other, List.find?_cons_of_pos late]
    rfl
  have erased : (s.queue o).eraseP (fun e' => e'.lateFor e.start) = pre ++ post := by
    rw [queue, List.eraseP_append_right _ other, List.eraseP_cons_of_pos late]
  simp only [State.dropDue, found, came, if_true, erased]

theorem endDue_early {d : Time} (queue : s.queue o = e :: rest) (state : e.state = .active d)
    (early : due s.now (after d e.duration) = false) : s.endDue o = s := by
  simp only [State.endDue, queue, state, early, Bool.false_eq_true, if_false]

theorem endDue_ends {d : Time} (queue : s.queue o = e :: rest) (state : e.state = .active d)
    (came : due s.now (after d e.duration) = true) :
    s.endDue o = (((s.setQueue o rest).postShotEnd o e .done).demandFall o).2 := by
  simp only [State.endDue, queue, state, came, if_true]

end events

/-- Settles O31: each event, each look and each firing by its case. -/
theorem shotEventsTaken : Obligations.ShotEventsTaken := by
  refine ⟨fun s o e rest running queue => ?_, fun s o e pre post running queue => ⟨?_, ?_⟩,
    fun s o e rest t queue running state came free => ⟨fun fired => ?_, fun fired => ?_⟩,
    fun s o e rest => ⟨fireHead_no_set, fun i set => ⟨fireHead_room set, fireHead_queued set, fireHead_refused set⟩⟩,
    fun s o => ⟨look_busy, look_empty, fun e rest queue free => ?_⟩, fun s => ⟨?_, ?_⟩, channelFree_iff,
    fun e => ⟨served_iff e, driveStart_iff e⟩⟩
  · refine ⟨fun came state free set => ?_, fun came state busy single => ?_, fun start early => ?_,
      fun state came => ?_, fun state early => ?_, fun d state came => ?_, fun d state early => ?_⟩
    · have begins : ((s.setChan o { s.chan o with demand := some (.shot e.tag) }).beginDrive o) =
          s.setChan o (begun { s.chan o with demand := some (.shot e.tag) } s.now (s.profile o)) := by
        have waits : ∀ x ∈ ((s.setChan o { s.chan o with demand := some (.shot e.tag) }).queue o).head?,
            x.state ≠ .deferred := by
          simp [queue, state]
        rw [beginDrive_begun rfl (.inr waits), State.setChan_chan_self, State.setChan_setChan]
        rfl
      rw [exec_startDue running, startDue_fires queue came state free, fireHead_no_set set, begins]
      rfl
    · rw [exec_startDue running]
      exact congrArg _ (startDue_late (pre := []) queue came state single (.inr busy))
    · rw [exec_startDue running, startDue_early early]
    · rw [exec_dropDue running]
      exact congrArg _ (dropDue_drops (pre := []) queue state came (by simp))
    · rw [exec_dropDue running, dropDue_early queue state early]
    · have start : e.driveStart = some d := (driveStart_iff e d).mpr state
      rw [exec_endDue running, endDue_ends queue state came, State.postShotEnd, start]
      rfl
    · rw [exec_endDue running, endDue_early queue state early]
  · intro state came single held
    rw [exec_startDue running, startDue_late queue came state single held]
  · intro state came first
    rw [exec_dropDue running]
    exact congrArg _ (dropDue_drops queue state came first)
  · rw [exec_startDue running, startDue_fires queue came state free, fired]
    rfl
  · rw [exec_startDue running, startDue_fires queue came state free, fired]
    rfl
  · refine ⟨look_served queue, look_waits queue, fun state came apart => ?_, fun k u t state together pick => ⟨fun even => ?_,
      fun odd fired => ?_, fun odd fired => ?_⟩, fun t h => ?_⟩
    · have drops : s.lookDrops e = (true, s) := by rw [lookDrops_apart apart, show due s.now e.dropTime = true from came]
      exact look_drops queue free state drops
    · have drops : s.lookDrops e = (true, u) := by rw [lookDrops_together together pick, decide_eq_true even]
      have now : u.now = s.now := by
        have frame := congrArg State.now (takePick_frame s)
        rw [pick] at frame
        exact frame
      rw [look_drops queue free state drops, State.postShotDropped, State.setQueue_now, now]
    · have keeps : s.lookDrops e = (false, u) := by
        rw [lookDrops_together together pick, decide_eq_false (by omega)]
      rw [look_fires_late queue free state keeps, fired]
      rfl
    · have keeps : s.lookDrops e = (false, u) := by
        rw [lookDrops_together together pick, decide_eq_false (by omega)]
      rw [look_fires_late queue free state keeps, fired]
      rfl
    · have fires : s.look o = firedOn o (s.fireHead o e rest) := by
        rcases h with ⟨state, early⟩ | ⟨state, came⟩
        · have apart : e.dropTime ≠ s.now := fun together => by
            have now : due s.now e.dropTime = true := by rw [together, due_self]
            exact absurd (now.symm.trans early) (by simp)
          have keeps : s.lookDrops e = (false, s) := by
            rw [lookDrops_apart apart, show due s.now e.dropTime = false from early]
          exact look_fires_late queue free state keeps
        · exact look_fires_waiting queue free state came
      refine ⟨fun fired => ?_, fun fired => ?_⟩ <;> rw [fires, fired] <;> rfl
  · intro c cs choices
    simp only [State.takePick, choices]
  · intro choices
    simp only [State.takePick, choices]

end Sys2Proof.Laws.Scheduler
end

section
/-! SUPPORT. Admission of shots: the checks in their order, what SHOT answers to them, and the span arithmetic. -/

namespace Sys2Proof.Laws.Admission

open Sys2Proof Sys2Proof.Machine Sys2Proof.Laws.Refusals Sys2Proof.Laws.Reads

variable {s : State} {e : ShotFields} {o : Output} {start : Time}

/-! ## The fields -/

/-- The reserved flags are clear exactly when the flag byte is below 4. -/
theorem reserved_clear_iff (b : Byte) : b.extractLsb' 2 6 = 0 ↔ b.toNat < 4 := by
  rw [← BitVec.toNat_inj, BitVec.extractLsb'_toNat, Nat.shiftRight_eq_div_pow]
  have := b.isLt
  change b.toNat / 4 % 64 = 0 ↔ b.toNat < 4
  omega

theorem checkFields_badField (h : 16 ≤ e.output.toNat ∨ 4 ≤ e.flags.toNat) :
    s.checkFields e = .error { code := .badField } := by
  unfold State.checkFields
  split
  · rfl
  · next o out =>
    have output := outputOf_eq_some.mp out
    have flags : e.flags.extractLsb' 2 6 ≠ 0 := by
      rw [ne_eq, reserved_clear_iff]
      omega
    rw [if_pos flags]

section fields

variable (output : o.val = e.output.toNat) (flags : e.flags.toNat < 4)
include output flags

/-- With an output and clear flags, what is left is the profile and the duration. -/
theorem checkFields_output :
    s.checkFields e =
      if (s.profile o).source ≠ .shot then .error { code := .wrongSource }
      else if e.duration < 10 ∨ 60000000 < e.duration then .error { code := .badField }
      else if (s.profile o).maxOn ≠ 0 ∧ (s.profile o).maxOn * 1000 ≤ e.duration then .error { code := .tooLong }
      else .ok o := by
  have clear : ¬ e.flags.extractLsb' 2 6 ≠ 0 := not_not.mpr ((reserved_clear_iff _).mpr flags)
  simp only [State.checkFields, outputOf_eq_some.mpr output.symm, if_neg clear]
  rfl

theorem checkFields_wrongSource (source : (s.profile o).source ≠ .shot) :
    s.checkFields e = .error { code := .wrongSource } := by
  rw [checkFields_output output flags, if_pos source]

variable (source : (s.profile o).source = .shot)
include source

theorem checkFields_duration (out : e.duration < 10 ∨ 60000000 < e.duration) :
    s.checkFields e = .error { code := .badField } := by
  rw [checkFields_output output flags, if_neg (not_not.mpr source), if_pos out]

variable (low : 10 ≤ e.duration) (high : e.duration ≤ 60000000)
include low high

theorem checkFields_tooLong (limited : (s.profile o).maxOn ≠ 0) (long : (s.profile o).maxOn * 1000 ≤ e.duration) :
    s.checkFields e = .error { code := .tooLong } := by
  rw [checkFields_output output flags, if_neg (not_not.mpr source), if_neg (by omega), if_pos ⟨limited, long⟩]

theorem checkFields_ok (short : (s.profile o).maxOn = 0 ∨ e.duration < (s.profile o).maxOn * 1000) :
    s.checkFields e = .ok o := by
  rw [checkFields_output output flags, if_neg (not_not.mpr source), if_neg (by omega), if_neg (by omega)]

end fields

/-- Fields that pass name the output and a duration of at least the shortest. -/
theorem duration_of_checkFields (h : s.checkFields e = .ok o) : 10 ≤ e.duration := by
  unfold State.checkFields at h
  split at h
  · simp at h
  · split at h
    · simp at h
    split at h
    · simp at h
    split at h
    · simp at h
    · next bounds => exact Nat.le_of_not_lt (not_or.mp bounds).1

/-! ## The start -/

section start

theorem checkStart_relative_far (relative : e.flags.getLsbD 0 = true) (far : 60000000 < e.start.toNat) :
    s.checkStart e = .error { code := .horizon } := by
  simp only [State.checkStart, relative, if_true, Config.horizon, far]

theorem checkStart_relative (relative : e.flags.getLsbD 0 = true) (near : e.start.toNat ≤ 60000000) :
    s.checkStart e = .ok (s.now + e.start) := by
  simp only [State.checkStart, relative, if_true, Config.horizon, Nat.not_lt.mpr near, if_false]

variable (absolute : e.flags.getLsbD 0 = false)
include absolute

theorem checkStart_far (early : due s.now e.start = false) (far : 60000000 < (e.start - s.now).toNat) :
    s.checkStart e = .error { code := .horizon } := by
  simp only [State.checkStart, absolute, early, Bool.false_eq_true, if_false, if_true, Config.horizon, far]

theorem checkStart_ahead (early : due s.now e.start = false) (near : (e.start - s.now).toNat ≤ 60000000) :
    s.checkStart e = .ok e.start := by
  simp only [State.checkStart, absolute, early, Bool.false_eq_true, if_false, Config.horizon, Nat.not_lt.mpr near]

theorem checkStart_tooLate (came : due s.now e.start = true) (late : e.grace < (s.now - e.start).toNat) :
    s.checkStart e = .error { code := .tooLate } := by
  simp only [State.checkStart, absolute, came, Bool.false_eq_true, if_false, if_true, late]

theorem checkStart_late (came : due s.now e.start = true) (within : (s.now - e.start).toNat ≤ e.grace) :
    s.checkStart e = .ok e.start := by
  simp only [State.checkStart, absolute, came, Bool.false_eq_true, if_false, if_true, Nat.not_lt.mpr within]

end start

/-! ## Room and spans -/

section room

variable {d : Nat}

theorem checkRoom_poolFull (full : 192 ≤ s.poolUse) : s.checkRoom o start d = some { code := .poolFull } := by
  simp only [State.checkRoom, Config.poolEntries, full, if_true]

variable (pool : s.poolUse < 192)
include pool

theorem checkRoom_queueFull (full : 48 ≤ (s.queue o).length) :
    s.checkRoom o start d = some { code := .queueFull } := by
  simp only [State.checkRoom, Config.poolEntries, Nat.not_le.mpr pool, if_false, Config.queueEntries, full, if_true]

variable (room : (s.queue o).length < 48)
include room

theorem checkRoom_met {pre post : List Entry} {x : Entry} (queue : s.queue o = pre ++ x :: post)
    (apart : ∀ y ∈ pre, y.meets s.now (s.profile o).minOff (spanOf s.now start d (s.profile o).minOff) = false)
    (met : x.meets s.now (s.profile o).minOff (spanOf s.now start d (s.profile o).minOff) = true) :
    s.checkRoom o start d = some { code := .overlap, met := some (x.tag, x.start) } := by
  have found : ((s.queue o).find? fun y =>
      y.meets s.now (s.profile o).minOff (spanOf s.now start d (s.profile o).minOff)) = some x :=
    List.find?_eq_some_iff_append.mpr ⟨met, pre, post, queue, fun y mem => by simp [apart y mem]⟩
  simp only [State.checkRoom, Config.poolEntries, Nat.not_le.mpr pool, if_false, Config.queueEntries,
    Nat.not_le.mpr room, found]

variable
  (apart : ∀ y ∈ s.queue o, y.meets s.now (s.profile o).minOff (spanOf s.now start d (s.profile o).minOff) = false)
include apart

theorem checkRoom_behind {h : Entry} {rest : List Entry} (queue : s.queue o = h :: rest) (served : h.served = true)
    (behind : fromNow s.now start ≤ fromNow s.now h.start) :
    s.checkRoom o start d = some { code := .overlap, met := some (h.tag, h.start) } := by
  simp only [State.checkRoom, Config.poolEntries, Nat.not_le.mpr pool, if_false, Config.queueEntries,
    Nat.not_le.mpr room, List.find?_eq_none.mpr fun y mem => Bool.eq_false_iff.mp (apart y mem)]
  simp only [queue, served, behind, and_self, if_true]

theorem checkRoom_none
    (ahead : ∀ h rest, s.queue o = h :: rest → h.served = true → fromNow s.now h.start < fromNow s.now start) :
    s.checkRoom o start d = none := by
  simp only [State.checkRoom, Config.poolEntries, Nat.not_le.mpr pool, if_false, Config.queueEntries,
    Nat.not_le.mpr room, List.find?_eq_none.mpr fun y mem => Bool.eq_false_iff.mp (apart y mem)]
  cases queue : s.queue o with
  | nil => rfl
  | cons h rest =>
    have no : ¬ (h.served = true ∧ fromNow s.now start ≤ fromNow s.now h.start) := fun ⟨served, behind⟩ =>
      absurd (ahead h rest queue served) (Int.not_lt.mpr behind)
    exact if_neg no

end room

/-- An entry that passes the check of room meets none. -/
theorem apart_of_checkRoom {d : Nat} (h : s.checkRoom o start d = none) :
    ∀ x ∈ s.queue o, x.meets s.now (s.profile o).minOff (spanOf s.now start d (s.profile o).minOff) = false := by
  unfold State.checkRoom at h
  dsimp only at h
  split at h
  · simp at h
  split at h
  · simp at h
  split at h
  · simp at h
  · next missed => exact fun x mem => by simpa using List.find?_eq_none.mp missed x mem

/-! ## Booking -/

section book

theorem book_fields {r : Refused} (h : s.checkFields e = .error r) : s.book e = .error r := by
  simp only [State.book, h]

variable (fields : s.checkFields e = .ok o)
include fields

theorem book_start {r : Refused} (h : s.checkStart e = .error r) : s.book e = .error r := by
  simp only [State.book, fields, h]

variable (starts : s.checkStart e = .ok start)
include starts

theorem book_room {r : Refused} (h : s.checkRoom o start e.duration = some r) : s.book e = .error r := by
  simp only [State.book, fields, starts, h]

theorem book_ok (h : s.checkRoom o start e.duration = none) :
    s.book e =
      .ok (o, start, s.enterQueue o ⟨e.tag, start, e.duration, e.grace, e.flags.getLsbD 1, .waiting⟩) := by
  simp only [State.book, fields, starts, h]

end book

section answered

theorem ownShot_idle (mode : s.mode = .idle) : ownShot e s = refuse s .wrongMode := by
  simp only [ownShot, mode, if_true]

variable (mode : s.mode ≠ .idle)
include mode

theorem ownShot_refused {r : Result} (h : s.book e = .error { code := r }) : ownShot e s = refuse s r := by
  simp only [ownShot, mode, if_false, h]

theorem ownShot_overlap {r : Result} {tag : Word16} {t : Time} (h : s.book e = .error ⟨r, some (tag, t)⟩) :
    ownShot e s = { state := s, body := .overlap tag t } := by
  simp only [ownShot, mode, if_false, h]

theorem ownShot_booked {t : State} (h : s.book e = .ok (o, start, t)) :
    ownShot e s =
      { state := t, body := .shot start (t.bookedState o start) (t.queue o).length t.poolUse } := by
  simp only [ownShot, mode, if_false, h]

end answered

/-! ## Spans and distances -/

theorem spansMeet_eq_false (a b : Int × Int) : spansMeet a b = false ↔ a.2 ≤ b.1 ∨ b.2 ≤ a.1 := by
  simp only [spansMeet, Bool.and_eq_false_iff, decide_eq_false_iff_not, Int.not_lt]
  exact Or.comm

theorem fromNow_ahead (now : Time) {n : Nat} (h : n < 2 ^ 31) : fromNow now (now + BitVec.ofNat 32 n) = n := by
  have distance : (now + BitVec.ofNat 32 n - now).toNat = n := by bv_omega
  rw [fromNow, BitVec.toInt_eq_toNat_of_lt (by omega), distance]

theorem fromNow_behind (now : Time) {n : Nat} (h : n ≤ 2 ^ 31) : fromNow now (now - BitVec.ofNat 32 n) = -n := by
  rcases Nat.eq_zero_or_pos n with rfl | pos
  · have zero : now - BitVec.ofNat 32 0 - now = 0 := by bv_omega
    rw [fromNow, zero]
    rfl
  · have distance : (now - BitVec.ofNat 32 n - now).toNat = 2 ^ 32 - n := by bv_omega
    rw [fromNow, BitVec.toInt_eq_toNat_cond, distance, if_neg (by omega)]
    omega

theorem poolUse_eq (s : State) : s.poolUse = ((List.finRange 16).map fun o => (s.queue o).length).sum := by
  rw [← allOutputs_eq]
  rfl

theorem meets_iff (x : Entry) (now : Time) (minOff : Nat) (span : Int × Int) :
    x.meets now minOff span = true ↔
      spansMeet (spanOf now x.start x.duration minOff) span = true ∨
      ∃ d, x.state = .active d ∧ spansMeet (spanOf now d x.duration minOff) span = true := by
  unfold Entry.meets
  cases x.state <;> simp

/-- An entry that does not meet a span does not meet it nominally. -/
theorem nominal_apart {x : Entry} {now : Time} {minOff : Nat} {span : Int × Int} (h : x.meets now minOff span = false) :
    spansMeet (spanOf now x.start x.duration minOff) span = false :=
  Bool.eq_false_iff.mpr fun meets => Bool.eq_false_iff.mp h ((meets_iff ..).mpr (.inl meets))

/-- Settles O27: the checks in their order, each by its case, and the arithmetic of spans. -/
theorem shotChecked : Obligations.ShotChecked := by
  refine ⟨fun seq body s e taken decoded => ?_, ⟨spansMeet_eq_false, fun seq body s e o start taken decoded mode fields starts => ?_⟩,
    fun s o start d pool room apart ahead => checkRoom_none pool room apart ahead,
    fun now n => ⟨fromNow_ahead now, fromNow_behind now⟩, poolUse_eq, fun _ _ _ _ => rfl,
    fun x now minOff span => ⟨fun passive => ?_, fun d active => ?_⟩⟩
  · have refused {r : Result} (h : ownShot e s = refuse s r) :
        exec (.shot seq body) s = .next (s.answer ⟨seq, 0x30, body⟩ (.code r) .nothing) :=
      order_answered (kind := 0x30) (owner := ownShot) taken decoded h
    have unbooked {r : Result} (mode : s.mode ≠ .idle) (h : s.book e = .error { code := r }) :=
      refused (ownShot_refused mode h)
    refine ⟨fun mode => refused (ownShot_idle mode), fun mode bad => unbooked mode (book_fields (checkFields_badField bad)),
      fun o mode output flags => ⟨fun source => ?_, fun source out => ?_, fun source low high => ⟨fun limited long => ?_,
        fun short => ?_⟩⟩⟩
    · exact unbooked mode (book_fields (checkFields_wrongSource output flags source))
    · exact unbooked mode (book_fields (checkFields_duration output flags source out))
    · exact unbooked mode (book_fields (checkFields_tooLong output flags source low high limited long))
    · have fields := checkFields_ok output flags source low high short
      have misstarted {r : Result} (h : s.checkStart e = .error { code := r }) := unbooked mode (book_start fields h)
      exact ⟨fields,
        fun relative => ⟨fun far => misstarted (checkStart_relative_far relative far), checkStart_relative relative⟩,
        fun absolute early => ⟨fun far => misstarted (checkStart_far absolute early far), checkStart_ahead absolute early⟩,
        fun absolute came => ⟨fun late => misstarted (checkStart_tooLate absolute came late), checkStart_late absolute came⟩⟩
  · have unroomed {r : Result} (h : s.checkRoom o start e.duration = some { code := r }) :
        exec (.shot seq body) s = .next (s.answer ⟨seq, 0x30, body⟩ (.code r) .nothing) :=
      order_answered (kind := 0x30) (owner := ownShot) taken decoded (ownShot_refused mode (book_room fields starts h))
    have overlaps {x : Entry} (h : s.checkRoom o start e.duration = some { code := .overlap, met := some (x.tag, x.start) }) :
        exec (.shot seq body) s = .next (s.answer ⟨seq, 0x30, body⟩ (.overlap x.tag x.start) .nothing) :=
      order_answered (kind := 0x30) (owner := ownShot) taken decoded (ownShot_overlap mode (book_room fields starts h))
    refine ⟨fun full => unroomed (checkRoom_poolFull full), fun pool full => unroomed (checkRoom_queueFull pool full),
      fun pool room => ⟨fun pre x post queue apart met => overlaps (checkRoom_met pool room queue apart met),
        fun h rest queue apart served behind => overlaps (checkRoom_behind pool room apart queue served behind)⟩⟩
  · refine Bool.eq_iff_iff.mpr ((meets_iff ..).trans (or_iff_left ?_))
    rintro ⟨d, active, -⟩
    exact passive d active
  · refine (meets_iff ..).trans (or_congr_right ⟨?_, fun meets => ⟨d, active, meets⟩⟩)
    rintro ⟨d', active', meets⟩
    obtain rfl : d' = d := by simpa [active] using active'.symm
    exact meets

end Sys2Proof.Laws.Admission
end

section
/-! SUPPORT. Booking a shot: its place in the queue, the queue's order, and what becomes of a LATE new head. -/

namespace Sys2Proof.Laws.Booking

open Sys2Proof Sys2Proof.Machine Sys2Proof.Laws.Admission Sys2Proof.Laws.Scheduler Sys2Proof.Laws.Channels
open Sys2Proof.Laws.Reads Sys2Proof.Laws.Drive Sys2Proof.Laws.Shots

/-! ## The place in the queue -/

/-- An entry goes behind those that start no later, before the first that starts after it. -/
theorem insertEntry_split (now : Time) (e : Entry) (q : List Entry) :
    ∃ a b, q = a ++ b ∧ insertEntry now e q = a ++ e :: b ∧
      (∀ x ∈ a, fromNow now x.start ≤ fromNow now e.start) ∧
      ∀ x ∈ b.head?, fromNow now e.start < fromNow now x.start := by
  induction q with
  | nil => exact ⟨[], [], rfl, rfl, by simp, by simp⟩
  | cons x xs ih =>
    by_cases before : fromNow now e.start < fromNow now x.start
    · exact ⟨[], x :: xs, rfl, by rw [insertEntry, if_pos before]; rfl, by simp, by simpa using before⟩
    · obtain ⟨a, b, split, inserted, low, high⟩ := ih
      refine ⟨x :: a, b, by rw [split]; rfl, by rw [insertEntry, if_neg before, inserted]; rfl, ?_, high⟩
      exact List.forall_mem_cons.mpr ⟨Int.not_lt.mp before, low⟩

theorem mem_insertEntry {now : Time} {e x : Entry} {q : List Entry} (h : x ∈ insertEntry now e q) : x = e ∨ x ∈ q := by
  obtain ⟨a, b, split, inserted, -⟩ := insertEntry_split now e q
  rw [inserted] at h
  rw [split]
  simp only [List.mem_append, List.mem_cons] at h ⊢
  tauto

section order

variable {now : Time} {minOff : Nat} {e : Entry}

/-- One entry's nominal span ends no later than another's begins. -/
def Before (now : Time) (minOff : Nat) (x y : Entry) : Prop :=
  fromNow now x.start + x.duration + minOff ≤ fromNow now y.start

/-- An entry not met lies wholly before or wholly after. -/
theorem before_or_after {x : Entry} (apart : x.meets now minOff (spanOf now e.start e.duration minOff) = false) :
    Before now minOff x e ∨ Before now minOff e x :=
  (spansMeet_eq_false ..).mp (nominal_apart apart)

theorem insertEntry_pairwise (long : 1 ≤ e.duration) {q : List Entry} (ordered : q.Pairwise (Before now minOff))
    (apart : ∀ x ∈ q, x.meets now minOff (spanOf now e.start e.duration minOff) = false) :
    (insertEntry now e q).Pairwise (Before now minOff) := by
  induction q with
  | nil => exact List.pairwise_singleton _ _
  | cons x xs ih =>
    obtain ⟨first, ordered⟩ := List.pairwise_cons.mp ordered
    obtain ⟨apartFirst, apart⟩ := List.forall_mem_cons.mp apart
    have side := before_or_after apartFirst
    by_cases before : fromNow now e.start < fromNow now x.start
    · have ahead : Before now minOff e x := side.resolve_left fun behind => by unfold Before at behind; omega
      have later : ∀ y ∈ xs, Before now minOff e y := fun y mem => by
        have := first y mem
        unfold Before at ahead this ⊢
        omega
      rw [insertEntry, if_pos before]
      exact List.pairwise_cons.mpr ⟨List.forall_mem_cons.mpr ⟨ahead, later⟩, List.pairwise_cons.mpr ⟨first, ordered⟩⟩
    · have behind : Before now minOff x e := side.resolve_right fun ahead => by unfold Before at ahead; omega
      rw [insertEntry, if_neg before]
      refine List.pairwise_cons.mpr ⟨fun y mem => ?_, ih ordered apart⟩
      rcases mem_insertEntry mem with rfl | mem
      · exact behind
      · exact first y mem

/-- Two entries with a duration and the same start meet. -/
theorem start_ne_of_apart {x : Entry} {start : Time} {d : Nat} (long : 1 ≤ d) (longer : 1 ≤ x.duration)
    (apart : x.meets now minOff (spanOf now start d minOff) = false) : x.start ≠ start := by
  rintro rfl
  have disjoint := (spansMeet_eq_false ..).mp (nominal_apart apart)
  simp only [spanOf] at disjoint
  omega

end order

/-! ## Entering the queue -/

section enter

variable {s : State} {o : Output} (x : Entry)

/-- A new head of a free channel is looked at. -/
theorem enterQueue_head
    (head : (insertEntry s.now (x.admitted s.now) (s.queue o)).head? = some (x.admitted s.now)) :
    s.enterQueue o x = (s.setQueue o (insertEntry s.now (x.admitted s.now) (s.queue o))).look o := by
  simp only [State.enterQueue, State.setQueue_queue_self, head, if_true]

theorem enterQueue_behind
    (behind : (insertEntry s.now (x.admitted s.now) (s.queue o)).head? ≠ some (x.admitted s.now)) :
    s.enterQueue o x = s.setQueue o (insertEntry s.now (x.admitted s.now) (s.queue o)) := by
  simp only [State.enterQueue, State.setQueue_queue_self, behind, if_false]

/-- Where the look does nothing, it does not matter whether the entry became the head. -/
theorem enterQueue_still
    (still : ∀ rest, insertEntry s.now (x.admitted s.now) (s.queue o) = x.admitted s.now :: rest →
      (s.setQueue o (x.admitted s.now :: rest)).look o = s.setQueue o (x.admitted s.now :: rest)) :
    s.enterQueue o x = s.setQueue o (insertEntry s.now (x.admitted s.now) (s.queue o)) := by
  by_cases head : (insertEntry s.now (x.admitted s.now) (s.queue o)).head? = some (x.admitted s.now)
  · obtain ⟨rest, inserted⟩ := List.head?_eq_some_iff.mp head
    rw [enterQueue_head x head, inserted, still rest inserted]
  · exact enterQueue_behind x head

end enter

/-! ## The looks that follow drop entries and add none -/

section starts

variable {s : State} {o : Output}

/-- Firing the head keeps it with another state, or drops it. -/
theorem fireHead_starts (e : Entry) (rest : List Entry) :
    (((s.fireHead o e rest).2.queue o).map (·.start)).Sublist ((e :: rest).map (·.start)) := by
  unfold State.fireHead
  split
  · rw [State.setQueue_queue_self]
    exact List.Sublist.refl _
  · rw [State.setQueue_queue_self]
    exact List.Sublist.refl _
  · rw [State.postShotDropped, post_queue, State.setQueue_queue_self]
    exact (List.sublist_cons_self ..).map _

theorem lookN_starts (n : Nat) (s : State) :
    (((lookN n o s).queue o).map (·.start)).Sublist ((s.queue o).map (·.start)) := by
  induction n generalizing s with
  | zero => exact List.Sublist.refl _
  | succ n ih =>
    unfold lookN
    split
    · split
      · exact List.Sublist.refl _
      · next e rest queue =>
        rw [queue]
        split
        · split
          · next s1 _ =>
            refine (ih _).trans ?_
            rw [State.postShotDropped, post_queue, State.setQueue_queue_self]
            exact (List.sublist_cons_self ..).map _
          · next s1 _ =>
            have fires := fireHead_starts (s := s1) (o := o) e rest
            split
            · next s2 fired => rw [fired] at fires; exact (ih s2).trans fires
            · next s2 fired => rw [fired] at fires; exact fires
        · split
          · have fires := fireHead_starts (s := s) (o := o) e rest
            split
            · next s2 fired => rw [fired] at fires; exact (ih s2).trans fires
            · next s2 fired => rw [fired] at fires; exact fires
          · rw [queue]
        · rw [queue]
    · exact List.Sublist.refl _

/-- No look brings an entry with a start that none had. -/
theorem look_start_ne {start : Time} (h : ∀ x ∈ s.queue o, x.start ≠ start) : ∀ x ∈ (s.look o).queue o, x.start ≠ start := by
  intro x mem same
  have there := (lookN_starts (o := o) _ s).subset (List.mem_map.mpr ⟨x, mem, same⟩)
  obtain ⟨y, mem, same⟩ := List.mem_map.mp there
  exact h y mem same

end starts

/-! ## The reply -/

section reply

variable {t : State} {o : Output} {start : Time}

theorem bookedState_there {a b : List Entry} {y : Entry} (queue : t.queue o = a ++ y :: b) (same : y.start = start)
    (other : ∀ x ∈ a, x.start ≠ start) : t.bookedState o start = y.state.reportState := by
  have found : ((t.queue o).find? fun e => e.start = start) = some y :=
    List.find?_eq_some_iff_append.mpr ⟨by simpa using same, a, b, queue, fun x mem => by simpa using other x mem⟩
  simp only [State.bookedState, found]

theorem bookedState_gone (gone : ∀ x ∈ t.queue o, x.start ≠ start) : t.bookedState o start = .deferExpired := by
  have missed : ((t.queue o).find? fun e => e.start = start) = none :=
    List.find?_eq_none.mpr fun x mem => by simpa using gone x mem
  simp only [State.bookedState, missed]

/-- One queue longer by one, the others as long: the pool holds one more. -/
theorem poolUse_grown {s : State} (here : (t.queue o).length = (s.queue o).length + 1)
    (others : ∀ p, p ≠ o → (t.queue p).length = (s.queue p).length) : t.poolUse = s.poolUse + 1 := by
  have change := sum_map_change (f := fun p => (t.queue p).length) (g := fun p => (s.queue p).length)
    (by decide : allOutputs.Nodup) (mem_allOutputs o) others
  change t.poolUse + (s.queue o).length = s.poolUse + (t.queue o).length at change
  omega

end reply

/-! ## The start of a LATE entry lies within its grace -/

theorem shotFieldsOf_grace {body rest : List Byte} {e : ShotFields} (h : shotFieldsOf body = some (e, rest)) :
    e.grace < 65536 := by
  unfold shotFieldsOf at h
  split at h
  · obtain ⟨rfl, -⟩ := Prod.mk.inj (Option.some.inj h)
    exact (le16 _ _).isLt
  · simp at h

theorem decodeShot_grace {body : List Byte} {e : ShotFields} (h : decodeShot body = .ok e) : e.grace < 65536 := by
  unfold decodeShot at h
  split at h
  · next fields =>
    obtain rfl := Except.ok.inj h
    exact shotFieldsOf_grace fields
  · simp at h

theorem late_within_grace {s : State} {e : ShotFields} {start : Time} (starts : s.checkStart e = .ok start)
    (came : due s.now start = true) : (s.now - start).toNat ≤ e.grace := by
  unfold State.checkStart at starts
  split at starts
  · split at starts
    · simp at starts
    · next near =>
      obtain rfl := Except.ok.inj starts
      have near : e.start.toNat ≤ 60000000 := Nat.not_lt.mp near
      have came : (s.now - (s.now + e.start)).toNat < 2 ^ 31 := of_decide_eq_true came
      bv_omega
  · split at starts
    · split at starts
      · simp at starts
      · next within =>
        obtain rfl := Except.ok.inj starts
        exact Nat.not_lt.mp within
    · next early =>
      split at starts
      · simp at starts
      · obtain rfl := Except.ok.inj starts
        exact absurd came early

/-- Within its grace, an entry's drop time lies ahead. -/
theorem dropTime_ahead {now : Time} {x : Entry} (within : (now - x.start).toNat ≤ x.grace) (short : x.grace < 65536) :
    due now x.dropTime = false := by
  refine decide_eq_false ?_
  unfold Entry.dropTime after
  bv_omega

/-! ## A SHOT that passes every check -/

section booked

variable {seq : Byte} {body : List Byte} {s : State} {e : ShotFields} {o : Output} {start : Time}

/-- The entry a SHOT books, in a state. -/
def entryOf (e : ShotFields) (start : Time) (st : EntryState) : Entry :=
  ⟨e.tag, start, e.duration, e.grace, e.flags.getLsbD 1, st⟩

theorem admitted_early {st : EntryState} (early : due s.now start = false) :
    (entryOf e start st).admitted s.now = entryOf e start .waiting := by
  simp only [Entry.admitted, entryOf, early, Bool.false_eq_true, if_false]

theorem admitted_late {st : EntryState} (came : due s.now start = true) :
    (entryOf e start st).admitted s.now = entryOf e start .late := by
  simp only [Entry.admitted, entryOf, came, if_true]

variable (taken : s.takes ⟨seq, 0x30, body⟩ = true) (decoded : decodeShot body = .ok e) (mode : s.mode ≠ .idle)
  (fields : s.checkFields e = .ok o) (starts : s.checkStart e = .ok start)
  (room : s.checkRoom o start e.duration = none) (long : ∀ x ∈ s.queue o, 10 ≤ x.duration)

include fields room long in
theorem queue_start_ne : ∀ x ∈ s.queue o, x.start ≠ start := fun x mem =>
  start_ne_of_apart (by have := duration_of_checkFields fields; omega) (by have := long x mem; omega)
    (apart_of_checkRoom room x mem)

include taken decoded mode fields starts room

/-- The reply tells what the queue holds once the entry has entered it. -/
theorem exec_shot_entered {t : State} (entered : s.enterQueue o (entryOf e start .waiting) = t) :
    exec (.shot seq body) s =
      .next (t.answer ⟨seq, 0x30, body⟩ (.shot start (t.bookedState o start) (t.queue o).length t.poolUse) .nothing) := by
  refine order_answered (kind := 0x30) (owner := ownShot) taken decoded (ownShot_booked mode ?_)
  rw [book_ok fields starts room, ← entered]
  rfl

include long

/-- An entry that stays: its state, and one entry more in its queue and in the pool. -/
theorem exec_shot_stays {t : State} {a b : List Entry} {st : EntryState}
    (entered : s.enterQueue o (entryOf e start .waiting) = t) (queue : t.queue o = a ++ entryOf e start st :: b)
    (split : s.queue o = a ++ b) (others : ∀ p, p ≠ o → (t.queue p).length = (s.queue p).length) :
    exec (.shot seq body) s =
      .next (t.answer ⟨seq, 0x30, body⟩
        (.shot start st.reportState ((s.queue o).length + 1) (s.poolUse + 1)) .nothing) := by
  have length : (t.queue o).length = (s.queue o).length + 1 := by
    rw [queue, split]
    simp only [List.length_append, List.length_cons]
    omega
  have other : ∀ x ∈ a, x.start ≠ start := fun x mem =>
    queue_start_ne fields room long x (by rw [split]; exact List.mem_append_left _ mem)
  rw [exec_shot_entered taken decoded mode fields starts room entered,
    bookedState_there (y := entryOf e start st) (start := start) queue rfl other, length,
    poolUse_grown length others]
  rfl

/-- An entry that only joins its queue. -/
theorem exec_shot_joins {st : EntryState}
    (entered : s.enterQueue o (entryOf e start .waiting) =
      s.setQueue o (insertEntry s.now (entryOf e start st) (s.queue o))) :
    exec (.shot seq body) s =
      .next ((s.setQueue o (insertEntry s.now (entryOf e start st) (s.queue o))).answer ⟨seq, 0x30, body⟩
        (.shot start st.reportState ((s.queue o).length + 1) (s.poolUse + 1)) .nothing) := by
  obtain ⟨a, b, split, inserted, -⟩ := insertEntry_split s.now (entryOf e start st) (s.queue o)
  refine exec_shot_stays taken decoded mode fields starts room long entered (a := a) (b := b) ?_ split fun p ne => ?_
  · rw [State.setQueue_queue_self, inserted]
  · rw [State.setQueue_queue, if_neg ne]

omit taken decoded mode starts in
/-- A new head has the whole former queue behind it. -/
theorem rest_of_head {st : EntryState} {rest : List Entry}
    (head : insertEntry s.now (entryOf e start st) (s.queue o) = entryOf e start st :: rest) : s.queue o = rest := by
  obtain ⟨a, b, split, inserted, -⟩ := insertEntry_split s.now (entryOf e start st) (s.queue o)
  rw [inserted] at head
  cases a with
  | nil => exact split.trans (List.cons.inj head).2
  | cons x a =>
    have first : x.start = start := congrArg Entry.start (List.cons.inj head).1
    exact absurd first (queue_start_ne fields room long x (by simp [split]))

omit mode fields room long taken in
/-- A LATE new head of a free channel fires within the order. -/
theorem enterQueue_fires {rest : List Entry} (came : due s.now start = true) (free : s.channelFree o = true)
    (head : insertEntry s.now (entryOf e start .late) (s.queue o) = entryOf e start .late :: rest) :
    s.enterQueue o (entryOf e start .waiting) =
      firedOn o ((s.setQueue o (entryOf e start .late :: rest)).fireHead o (entryOf e start .late) rest) := by
  have ahead : due s.now (entryOf e start .late).dropTime = false :=
    dropTime_ahead (late_within_grace starts came) (decodeShot_grace decoded)
  have apart : (entryOf e start .late).dropTime ≠ s.now := fun together => by
    rw [together, due_self] at ahead
    exact absurd ahead (by simp)
  have admitted := admitted_late (e := e) (st := .waiting) came
  rw [enterQueue_head _ (by rw [admitted, head]; rfl), admitted, head]
  refine look_fires_late (State.setQueue_queue_self ..) free rfl ?_
  exact (lookDrops_apart (s := s.setQueue o (entryOf e start .late :: rest)) apart).trans (congrArg (·, _) ahead)

end booked

end Sys2Proof.Laws.Booking
end

section
/-! SUPPORT. The two obligations on booking: one SHOT, and a batch of them. -/

namespace Sys2Proof.Laws.Booked

open Sys2Proof Sys2Proof.Machine Sys2Proof.Laws.Admission Sys2Proof.Laws.Scheduler Sys2Proof.Laws.Channels
open Sys2Proof.Laws.Reads Sys2Proof.Laws.Booking Sys2Proof.Laws.Drive

/-! ## One SHOT -/

section fires

variable {s : State} {o : Output} {x : Entry} {q rest : List Entry}

/-- A drive without a set, for a queue rewritten: the channel begins, and the queue is what the firing makes it. -/
theorem fireHead_begins (set : (s.profile o).iset = none) (first : ∀ y ∈ q.head?, y.state ≠ .deferred) :
    (s.setQueue o q).fireHead o x rest =
      (false, (s.setChan o (begun { s.chan o with demand := some (.shot x.tag) } s.now (s.profile o))).setQueue o
        ({ x with state := .active s.now } :: rest)) := by
  have begins : ((s.setQueue o q).setChan o { s.chan o with demand := some (.shot x.tag) }).beginDrive o =
      (s.setQueue o q).setChan o (begun { s.chan o with demand := some (.shot x.tag) } s.now (s.profile o)) := by
    have waits : ∀ y ∈ (((s.setQueue o q).setChan o { s.chan o with demand := some (.shot x.tag) }).queue o).head?,
        y.state ≠ .deferred := by
      rw [State.setChan_queue, State.setQueue_queue_self]
      exact first
    rw [beginDrive_begun rfl (.inr waits), State.setChan_chan_self, State.setChan_setChan]
    rfl
  refine (fireHead_no_set (s := s.setQueue o q) set).trans (congrArg (Prod.mk false) ?_)
  refine (congrArg (State.setQueue · o _) begins).trans ?_
  rw [← State.setChan_setQueue, State.setQueue_setQueue]
  rfl

/-- Beginning a drive and rewriting its own queue leaves the other queues as long as they were. -/
theorem beginDrive_setQueue_length {p : Output} (ne : p ≠ o) :
    (((s.beginDrive o).setQueue o q).queue p).length = (s.queue p).length := by
  rw [State.setQueue_queue, if_neg ne, beginDrive_queue_length]

end fires

/-- Settles O28: the entry's place, the queue's order, and the reply by what the look at a LATE new head does. -/
theorem shotBooked : Obligations.ShotBooked := by
  refine ⟨insertEntry_split, fun now minOff e q long ordered apart => insertEntry_pairwise long ordered apart,
    fun seq body s e o start taken decoded mode fields starts room long => ?_⟩
  have joins {st : EntryState} := exec_shot_joins (st := st) taken decoded mode fields starts room long
  have stays {t : State} {a b : List Entry} {st : EntryState} :=
    exec_shot_stays (t := t) (a := a) (b := b) (st := st) taken decoded mode fields starts room long
  have elsewhere (q : List Entry) {p : Output} (ne : p ≠ o) : (s.setQueue o q).queue p = s.queue p := by
    rw [State.setQueue_queue, if_neg ne]
  refine ⟨fun ahead => joins ?_, fun came busy => joins ?_, fun came free empty set => ?_, fun came free behind => joins ?_,
    fun rest came free head => ?_⟩
  · have still := enterQueue_still (s := s) (o := o) (entryOf e start .waiting)
    rw [admitted_early ahead] at still
    exact still fun rest _ => look_waits (State.setQueue_queue_self ..) rfl ahead
  · have still := enterQueue_still (s := s) (o := o) (entryOf e start .waiting)
    rw [admitted_late came] at still
    exact still fun rest _ => look_busy busy
  · have head : insertEntry s.now (entryOf e start .late) (s.queue o) = entryOf e start .late :: [] := by
      rw [empty]
      rfl
    have entered := enterQueue_fires decoded starts came free head
    rw [fireHead_begins set (by simp [entryOf])] at entered
    have reply := stays (a := []) (b := []) (st := .active s.now) entered (State.setQueue_queue_self ..) empty fun p ne =>
      congrArg List.length (State.setQueue_queue .. |>.trans (if_neg ne))
    rw [empty] at reply
    exact reply
  · have admitted := admitted_late (e := e) (st := .waiting) came
    rw [enterQueue_behind _ (by rw [admitted]; exact behind), admitted]
  · have fires := enterQueue_fires decoded starts came free head
    have behind := rest_of_head fields room long head
    refine ⟨fun set => ?_, fun i set space => ?_, fun i set full limit => ?_, fun i set full limit => ?_⟩
    · rw [fireHead_no_set (s := s.setQueue o (entryOf e start .late :: rest)) set] at fires
      exact stays (a := []) (b := rest) (st := .active s.now) fires (State.setQueue_queue_self ..) behind fun p ne =>
        (beginDrive_setQueue_length ne).trans (congrArg List.length (elsewhere (entryOf e start .late :: rest) ne))
    · rw [fireHead_room (s := s.setQueue o (entryOf e start .late :: rest)) set space] at fires
      exact stays (a := []) (b := rest) (st := .active s.now) fires (State.setQueue_queue_self ..) behind fun p ne =>
        (beginDrive_setQueue_length ne).trans (congrArg List.length (elsewhere (entryOf e start .late :: rest) ne))
    · rw [fireHead_queued (s := s.setQueue o (entryOf e start .late :: rest)) set full limit, ← State.setIset_setQueue,
        ← State.setChan_setQueue] at fires
      have queued := fires.trans (State.setQueue_setQueue ..)
      exact stays (a := []) (b := rest) (st := .deferred) queued (State.setQueue_queue_self ..) behind fun p ne =>
        congrArg List.length (State.setQueue_queue .. |>.trans (if_neg ne))
    · rw [fireHead_refused (s := s.setQueue o (entryOf e start .late :: rest)) set full limit] at fires
      have reply := exec_shot_entered taken decoded mode fields starts room fires
      rw [bookedState_gone] at reply
      · exact reply
      · refine look_start_ne fun x mem => ?_
        rw [post_queue, State.setQueue_queue_self] at mem
        exact queue_start_ne fields room long x (by rw [behind]; exact mem)

/-! ## A batch -/

/-- The entries booked one after another, as far as they can be. -/
def bookAll (es : List ShotFields) (s : State) : Except Refused State :=
  es.foldlM (fun u e => (u.book e).map fun x => x.2.2) s

section batch

variable {s t : State} {e : ShotFields} {es : List ShotFields} {r : Refused}

theorem bookAll_booked {x : Output × Time × State} (h : s.book e = .ok x) : bookAll (e :: es) s = bookAll es x.2.2 := by
  rw [bookAll, List.foldlM_cons, h]
  rfl

theorem bookAll_refused (h : s.book e = .error r) : bookAll (e :: es) s = .error r := by
  rw [bookAll, List.foldlM_cons, h]
  rfl

/-- A batch whose first entries can be booked goes on with the others. -/
theorem bookBatch_append {pre suf : List ShotFields} (n : Nat) (h : bookAll pre s = .ok t) :
    bookBatch (pre ++ suf) n s = bookBatch suf (n + pre.length) t := by
  induction pre generalizing s n with
  | nil =>
    obtain rfl := Except.ok.inj h
    rfl
  | cons e pre ih =>
    cases first : s.book e with
    | error r =>
      rw [bookAll_refused first] at h
      simp at h
    | ok x =>
      rw [bookAll_booked first] at h
      simp only [List.cons_append, bookBatch, first, ih (n + 1) h, List.length_cons]
      congr 1
      omega

theorem bookBatch_stops (n : Nat) (h : s.book e = .error r) : bookBatch (e :: es) n s = (s, n, some r) := by
  simp only [bookBatch, h]

/-- A batch is booked whole, or up to a first entry that is refused. -/
theorem bookAll_or_stops (es : List ShotFields) (s : State) :
    (∃ t, bookAll es s = .ok t) ∨
      ∃ pre e rest t r, es = pre ++ e :: rest ∧ bookAll pre s = .ok t ∧ t.book e = .error r := by
  induction es generalizing s with
  | nil => exact .inl ⟨s, rfl⟩
  | cons e es ih =>
    cases first : s.book e with
    | error r => exact .inr ⟨[], e, es, s, r, rfl, rfl, first⟩
    | ok x =>
      rcases ih x.2.2 with ⟨t, whole⟩ | ⟨pre, e', rest, t, r, split, booked, refused⟩
      · exact .inl ⟨t, (bookAll_booked first).trans whole⟩
      · exact .inr ⟨e :: pre, e', rest, t, r, by rw [split]; rfl, (bookAll_booked first).trans booked, refused⟩

theorem ownShots_idle (mode : s.mode = .idle) : ownShots es s = { state := s, body := .shots .wrongMode 0 0 none } := by
  simp only [ownShots, mode, if_true]

theorem ownShots_all (mode : s.mode ≠ .idle) (whole : bookAll es s = .ok t) :
    ownShots es s = { state := t, body := .shots .ok es.length es.length none } := by
  have batch : bookBatch es 0 s = (t, es.length, none) := by
    have run := bookBatch_append (suf := []) 0 whole
    rwa [List.append_nil, Nat.zero_add] at run
  simp only [ownShots, mode, if_false, batch]

theorem ownShots_stops {pre rest : List ShotFields} (mode : s.mode ≠ .idle) (booked : bookAll pre s = .ok t)
    (refused : t.book e = .error r) :
    ownShots (pre ++ e :: rest) s = { state := t, body := .shots r.code pre.length pre.length r.met } := by
  have batch : bookBatch (pre ++ e :: rest) 0 s = (t, pre.length, some r) := by
    rw [bookBatch_append 0 booked, bookBatch_stops _ refused, Nat.zero_add]
  simp only [ownShots, mode, if_false, batch]

end batch

/-- Settles O29: the batch booked whole or stopped at the first refusal, and what booking one entry does. -/
theorem batchBooked : Obligations.BatchBooked := by
  intro seq body s es taken decoded
  refine ⟨fun mode => ?_, fun t mode whole => ?_, fun pre e rest t r mode split booked refused => ?_, bookAll_or_stops es s,
    fun u e o start => ⟨fun r => book_fields, fun r fields => book_start fields, fun r fields starts => book_room fields starts, book_ok,
      fun x => ⟨enterQueue_head x, enterQueue_behind x⟩⟩⟩
  · exact order_answered (kind := 0x31) (owner := ownShots) taken decoded (ownShots_idle mode)
  · exact order_answered (kind := 0x31) (owner := ownShots) taken decoded (ownShots_all mode whole)
  · subst split
    exact order_answered (kind := 0x31) (owner := ownShots) taken decoded (ownShots_stops mode booked refused)

end Sys2Proof.Laws.Booked
end

section
/-! SUPPORT. CANCEL: the removals, which move no other queue and no clock, and the falls that follow them. -/

namespace Sys2Proof.Laws.Cancels

open Sys2Proof Sys2Proof.Machine Sys2Proof.Laws.Refusals Sys2Proof.Laws.Reads Sys2Proof.Laws.Drive

/-! ## The order -/

theorem decodeCancel_nodup {body : List Byte} {f : CancelFields} (h : decodeCancel body = .ok f) : f.outputs.Nodup := by
  unfold decodeCancel at h
  split at h
  · next o g t0 t1 =>
    by_cases clear : g.extractLsb' 1 7 = 0
    · by_cases every : o = 0xFF
      · simp only [every, clear, if_true] at h
        obtain rfl := Except.ok.inj h
        exact (by decide : allOutputs.Nodup)
      · cases named : outputOf o with
        | none =>
          simp only [every, if_false, named] at h
          exact absurd h nofun
        | some a =>
          simp only [every, clear, if_true, if_false, named] at h
          obtain rfl := Except.ok.inj h
          exact List.nodup_singleton a
    · by_cases every : o = 0xFF
      · simp only [every, clear, if_true, if_false] at h
        exact absurd h nofun
      · simp only [every, clear, if_false] at h
        cases named : outputOf o <;> rw [named] at h <;> exact absurd h nofun
  · simp at h

theorem decodeCancel_all (tag : Word16) (incl : Bool) :
    decodeCancel (0xFF :: (if incl then 1 else 0) :: bytes16 tag) = .ok ⟨List.finRange 16, tag, incl⟩ := by
  have whole := Bodies.le16_bytes16 tag
  cases incl <;> simp [decodeCancel, bytes16, fieldOr, allOutputs_eq, whole]

/-! ## Removal -/

section remove

/-- Whether a CANCEL with a tag and an include-active flag removes an entry. -/
def hit (tag : Word16) (incl : Bool) (e : Entry) : Bool :=
  decide (e.tag = tag ∧ (e.driveStart.isSome = true → incl = true))

theorem cancelRemoves_eq (f : CancelFields) (e : Entry) : cancelRemoves f e = hit f.tag f.includeActive e := by
  unfold cancelRemoves hit Entry.driveStart
  cases e.state <;> simp

variable (s : State) (f : CancelFields)

/-- The removal at one output, by the queue and the clock of the state before all removals. -/
def remove (t : State) (o : Output) : State :=
  ((s.queue o).filter (hit f.tag f.includeActive)).foldl
    (fun t e => if e.report then t.post (.shotEnd o e.tag .cancelled e.start e.driveStart s.now) else t)
    (t.setQueue o ((s.queue o).filter fun e => !hit f.tag f.includeActive e))

/-- The fall or the look at one output, by the head it had before all removals. -/
def settle (t : State) (o : Output) : State :=
  match s.queue o with
  | h :: _ => if hit f.tag f.includeActive h then if h.served then (t.demandFall o).2 else t.look o else t
  | [] => t

theorem cancelHead_eq (t : State) (o : Output) : t.cancelHead f s o = settle s f t o := by
  unfold State.cancelHead settle
  cases s.queue o with
  | nil => rfl
  | cons h rest => simp only [cancelRemoves_eq]

theorem postShotEnd_now (t : State) (o : Output) (e : Entry) (r : ShotEnd) : (t.postShotEnd o e r).now = t.now := by
  unfold State.postShotEnd
  split
  · rw [post_frame]
  · rfl

theorem postShotEnd_queue (t : State) (o p : Output) (e : Entry) (r : ShotEnd) :
    (t.postShotEnd o e r).queue p = t.queue p := by
  unfold State.postShotEnd
  split
  · rw [post_queue]
  · rfl

variable {s f}

/-- The notices of a removal all carry the moment of the order. -/
theorem foldl_postShotEnd (o : Output) (gone : List Entry) {t : State} (now : t.now = s.now) :
    gone.foldl (fun t e => t.postShotEnd o e .cancelled) t =
      gone.foldl
        (fun t e => if e.report then t.post (.shotEnd o e.tag .cancelled e.start e.driveStart s.now) else t) t := by
  induction gone generalizing t with
  | nil => rfl
  | cons e gone ih =>
    rw [List.foldl_cons, List.foldl_cons, ih ((postShotEnd_now ..).trans now)]
    simp only [State.postShotEnd, now]

theorem foldl_postShotEnd_keeps (o : Output) (gone : List Entry) (t : State) :
    (gone.foldl (fun t e => t.postShotEnd o e .cancelled) t).now = t.now ∧
      ∀ p, (gone.foldl (fun t e => t.postShotEnd o e .cancelled) t).queue p = t.queue p := by
  induction gone generalizing t with
  | nil => exact ⟨rfl, fun _ => rfl⟩
  | cons e gone ih =>
    obtain ⟨now, queue⟩ := ih (t.postShotEnd o e .cancelled)
    exact ⟨now.trans (postShotEnd_now ..), fun p => (queue p).trans (postShotEnd_queue ..)⟩

theorem cancelQueue_eq {t : State} {o : Output} (now : t.now = s.now) (queue : t.queue o = s.queue o) :
    t.cancelQueue f o = (((s.queue o).filter (hit f.tag f.includeActive)).length, remove s f t o) := by
  have same : cancelRemoves f = hit f.tag f.includeActive := funext (cancelRemoves_eq f)
  simp only [State.cancelQueue, queue, same]
  rw [foldl_postShotEnd (s := s) o _ (by exact now)]
  rfl

theorem remove_keeps {t : State} {o : Output} (now : t.now = s.now) :
    (remove s f t o).now = s.now ∧ ∀ p, p ≠ o → (remove s f t o).queue p = t.queue p := by
  unfold remove
  rw [← foldl_postShotEnd (s := s) o _ (by exact now)]
  obtain ⟨now', queue⟩ := foldl_postShotEnd_keeps o ((s.queue o).filter (hit f.tag f.includeActive))
    (t.setQueue o ((s.queue o).filter fun e => !hit f.tag f.includeActive e))
  exact ⟨now'.trans now, fun p ne => (queue p).trans ((State.setQueue_queue ..).trans (if_neg ne))⟩

/-- Removals at several outputs: each reads its own queue as it was before all of them. -/
theorem foldl_cancelQueue {outs : List Output} (distinct : outs.Nodup) {t : State} (n : Nat) (now : t.now = s.now)
    (queues : ∀ o ∈ outs, t.queue o = s.queue o) :
    outs.foldl (fun r o => let p := r.2.cancelQueue f o; (r.1 + p.1, p.2)) (n, t) =
      (n + (outs.map fun o => ((s.queue o).filter (hit f.tag f.includeActive)).length).sum,
        outs.foldl (remove s f) t) := by
  induction outs generalizing t n with
  | nil => rfl
  | cons o outs ih =>
    obtain ⟨new, distinct⟩ := List.nodup_cons.mp distinct
    obtain ⟨here, there⟩ := List.forall_mem_cons.mp queues
    obtain ⟨now', others⟩ := remove_keeps (f := f) (o := o) now
    have left : ∀ p ∈ outs, (remove s f t o).queue p = s.queue p := fun p mem =>
      (others p fun same => new (same ▸ mem)).trans (there p mem)
    simp only [List.foldl_cons, List.map_cons, List.sum_cons, cancelQueue_eq now here]
    rw [ih distinct _ now' left, Nat.add_assoc]

end remove

section taken

variable {seq : Byte} {body : List Byte} {s : State} {f : CancelFields}
  (taken : s.takes ⟨seq, 0x32, body⟩ = true) (decoded : decodeCancel body = .ok f)
include taken decoded

theorem exec_cancel_idle (mode : s.mode = .idle) :
    exec (.cancel seq body) s = .next (s.answer ⟨seq, 0x32, body⟩ (.code .wrongMode) .nothing) := by
  refine order_answered (kind := 0x32) (owner := ownCancel) (x := ⟨s, .code .wrongMode, .nothing⟩) taken decoded ?_
  simp only [ownCancel, mode, if_true, refuse]

/-- All removals first, then the falls and the looks. -/
theorem exec_cancel (mode : s.mode ≠ .idle) :
    exec (.cancel seq body) s =
      .next ((f.outputs.foldl (settle s f) (f.outputs.foldl (remove s f) s)).answer ⟨seq, 0x32, body⟩
        (.cancelled (f.outputs.map fun o => ((s.queue o).filter (hit f.tag f.includeActive)).length).sum) .nothing) := by
  have queues : s.cancelQueues f = _ :=
    foldl_cancelQueue (s := s) (f := f) (t := s) (decodeCancel_nodup decoded) 0 rfl fun _ _ => rfl
  have heads : (fun t o => State.cancelHead t f s o) = settle s f := funext₂ fun t o => cancelHead_eq s f t o
  refine order_answered (kind := 0x32) (owner := ownCancel) (x := ⟨_, _, .nothing⟩) taken decoded ?_
  simp only [ownCancel, mode, if_false, queues, heads, Nat.zero_add]

end taken

section single

variable {seq : Byte} {body : List Byte} {s : State} {o : Output} {tag : Word16} {incl : Bool}
  (taken : s.takes ⟨seq, 0x32, body⟩ = true) (decoded : decodeCancel body = .ok ⟨[o], tag, incl⟩)
  (mode : s.mode ≠ .idle)
include taken decoded mode

/-- CANCEL of one output, once the turn of its head is known. -/
theorem exec_cancel_one {t : State} (settled : settle s ⟨[o], tag, incl⟩ (remove s ⟨[o], tag, incl⟩ s o) o = t) :
    exec (.cancel seq body) s =
      .next (t.answer ⟨seq, 0x32, body⟩ (.cancelled ((s.queue o).filter (hit tag incl)).length) .nothing) := by
  rw [exec_cancel taken decoded mode]
  simp only [List.foldl_cons, List.foldl_nil, List.map_cons, List.map_nil, List.sum_cons, List.sum_nil, Nat.add_zero,
    settled]

end single

section settled

variable {s t : State} {f : CancelFields} {o : Output} {h : Entry}

theorem settle_kept (kept : ∀ h ∈ (s.queue o).head?, hit f.tag f.includeActive h = false) : settle s f t o = t := by
  unfold settle
  cases queue : s.queue o with
  | nil => rfl
  | cons h rest =>
    have stays := kept h (by rw [queue]; rfl)
    simp only [stays, Bool.false_eq_true, if_false]

theorem settle_gone (head : h ∈ (s.queue o).head?) (gone : hit f.tag f.includeActive h = true) :
    settle s f t o = if h.served then (t.demandFall o).2 else t.look o := by
  obtain ⟨rest, queue⟩ := List.head?_eq_some_iff.mp head
  simp only [settle, queue, gone, if_true]

end settled

/-- Settles O30: CANCEL of one output is the general order's single case. -/
theorem cancelRemoves : Obligations.CancelRemoves := by
  refine ⟨fun seq body s o tag incl taken decoded => ⟨exec_cancel_idle taken decoded, fun mode kept => ?_,
      fun h head mode gone served => ?_, fun h head mode gone waiting => ?_⟩,
    fun seq body s outs tag incl taken decoded mode => ?_, decodeCancel_all⟩
  · exact exec_cancel_one taken decoded mode (settle_kept kept)
  · refine exec_cancel_one taken decoded mode ((settle_gone head (by exact gone)).trans ?_)
    rw [if_pos served]
    rfl
  · refine exec_cancel_one taken decoded mode ((settle_gone head (by exact gone)).trans ?_)
    rw [if_neg (by rw [waiting]; simp)]
    rfl
  · intro hit' remove' settle'
    have settles : settle' = settle s ⟨outs, tag, incl⟩ := funext₂ fun t o => by
      simp only [settle', settle]
      cases s.queue o <;> rfl
    rw [settles]
    exact exec_cancel taken decoded mode

end Sys2Proof.Laws.Cancels
end

section
/-! SUPPORT. Edits of the shadow table and the conflict of windows. -/

namespace Sys2Proof.Laws.CamEdits

open Sys2Proof Sys2Proof.Machine Sys2Proof.Laws.CamTables Sys2Proof.Laws.Invariants Sys2Proof.Laws.Reads
open Sys2Proof.Laws.Refusals

/-! ## The lowest slot that satisfies a test -/

/-- In a list with ascending keys, the first element that satisfies a test is the one no smaller one satisfies. -/
theorem find?_of_lowest {α β : Type} [LT β] {key : α → β} {p : α → Bool} {l : List α} {a : α}
    (ascending : l.Pairwise fun x y => key x < key y) (mem : a ∈ l) (holds : p a = true)
    (lowest : ∀ b ∈ l, key b < key a → p b = false) : l.find? p = some a := by
  induction l with
  | nil => simp at mem
  | cons b l ih =>
    obtain ⟨first, ascending⟩ := List.pairwise_cons.mp ascending
    rcases List.mem_cons.mp mem with rfl | mem
    · exact List.find?_cons_of_pos holds
    · rw [List.find?_cons_of_neg (by simp [lowest b List.mem_cons_self (first a mem)])]
      exact ih ascending mem fun c member => lowest c (List.mem_cons_of_mem b member)

theorem allSlots_ascending : allSlots.Pairwise fun i j : Slot => i < j := List.pairwise_lt_finRange 96

theorem windows_ascending (t : CamTable) : (CamTable.windows t).Pairwise fun a b => a.1 < b.1 := by
  refine allSlots_ascending.filterMap _ fun i j below a fromI b fromJ => ?_
  obtain ⟨v, -, rfl⟩ := Option.map_eq_some_iff.mp fromI
  obtain ⟨w, -, rfl⟩ := Option.map_eq_some_iff.mp fromJ
  exact below

/-! ## CAM_PUT -/

section put

variable {s : State} {w : Window} {i : Slot}

theorem ownCamPut_refused {r : Result} (refused : s.editRefusal = some r) : ownCamPut w s = refuse s r := by
  simp only [ownCamPut, refused]

variable (free : s.editRefusal = none)
include free

theorem ownCamPut_wrongSource (source : (s.profile w.output).source ≠ .cam) :
    ownCamPut w s = refuse s .wrongSource := by
  simp only [ownCamPut, free, source, ne_eq, not_false_eq_true, if_true]

variable (source : (s.profile w.output).source = .cam)
include source

theorem ownCamPut_badField
    (out : s.tracker.cycleLength ≤ w.onAngle ∨ s.tracker.cycleLength ≤ w.offAngle ∨ w.onAngle = w.offAngle) :
    ownCamPut w s = refuse s .badField := by
  simp only [ownCamPut, free, source, ne_eq, not_true_eq_false, if_false, out, if_true]

variable (on : w.onAngle < s.tracker.cycleLength) (off : w.offAngle < s.tracker.cycleLength)
  (apart : w.onAngle ≠ w.offAngle)
include on off apart

theorem ownCamPut_tableFull (full : ∀ i, rd s.cam.shadow i ≠ none) : ownCamPut w s = refuse s .tableFull := by
  have none : (allSlots.find? fun i => (rd s.cam.shadow i).isNone) = Option.none :=
    List.find?_eq_none.mpr fun i _ => by simp [full i]
  simp only [ownCamPut, free, source, ne_eq, not_true_eq_false, if_false, Nat.not_le.mpr on, Nat.not_le.mpr off, apart,
    or_self, none]

/-- The first window in conflict refuses, if the shadow has room. -/
theorem ownCamPut_overlap {v : Window} (room : ∃ j, rd s.cam.shadow j = none) (held : rd s.cam.shadow i = some v)
    (conflict : windowsConflict s.tracker.cycleLength w v = true)
    (before : ∀ j u, j < i → rd s.cam.shadow j = some u → windowsConflict s.tracker.cycleLength w u = false) :
    ownCamPut w s = { state := s, body := .windowOverlap i } := by
  obtain ⟨j, empty⟩ := room
  obtain ⟨slot, lowest⟩ : ∃ slot, (allSlots.find? fun i => (rd s.cam.shadow i).isNone) = some slot :=
    Option.isSome_iff_exists.mp (List.find?_isSome.mpr ⟨j, List.mem_finRange j, by simp [empty]⟩)
  have met : ((CamTable.windows s.cam.shadow).find? fun e => windowsConflict s.tracker.cycleLength w e.2) = some (i, v) :=
    find?_of_lowest (windows_ascending _) (mem_windows.mpr held) conflict fun e mem below =>
      before e.1 e.2 below (mem_windows.mp mem)
  simp only [ownCamPut, free, source, ne_eq, not_true_eq_false, if_false, Nat.not_le.mpr on, Nat.not_le.mpr off, apart,
    or_self, lowest, met]

theorem ownCamPut_put (empty : rd s.cam.shadow i = none) (lowest : ∀ j, j < i → rd s.cam.shadow j ≠ none)
    (clear : ∀ j u, rd s.cam.shadow j = some u → windowsConflict s.tracker.cycleLength w u = false) :
    ownCamPut w s = { state := s.setShadow (wr s.cam.shadow i (some w)), body := .camPut i } := by
  have first : (allSlots.find? fun i => (rd s.cam.shadow i).isNone) = some i :=
    find?_of_lowest (key := id) allSlots_ascending (List.mem_finRange i) (by simp [empty]) fun j _ below => by
      simpa using Option.isSome_iff_ne_none.mpr (lowest j below)
  have met : ((CamTable.windows s.cam.shadow).find? fun e => windowsConflict s.tracker.cycleLength w e.2) = none :=
    List.find?_eq_none.mpr fun e mem => by simp [clear e.1 e.2 (mem_windows.mp mem)]
  simp only [ownCamPut, free, source, ne_eq, not_true_eq_false, if_false, Nat.not_le.mpr on, Nat.not_le.mpr off, apart,
    or_self, first, met]

end put

/-- Settles O33: the shared checks, the window's own, the room and the conflicts, in this order. -/
theorem windowPut : Obligations.WindowPut := by
  intro seq body s w taken decoded
  have answered {x : Answer} (h : ownCamPut w s = x) :
      exec (.camPut seq body) s = .next (x.state.answer ⟨seq, 0x42, body⟩ x.body x.bound) :=
    order_answered taken decoded h
  refine ⟨fun angle => ?_, fun angle pending => ?_, fun angle idle => ?_⟩
  · exact answered (ownCamPut_refused (editRefusal_noAngle angle))
  · exact answered (ownCamPut_refused (editRefusal_commitPending angle pending))
  · have free := editRefusal_none angle idle
    refine ⟨fun source => ?_, fun source out => ?_, fun source on off apart => ⟨fun full => ?_,
      fun i v room held conflict before => ?_, fun i empty lowest clear => ?_⟩⟩
    · exact answered (ownCamPut_wrongSource free source)
    · exact answered (ownCamPut_badField free source out)
    · exact answered (ownCamPut_tableFull free source on off apart full)
    · exact answered (ownCamPut_overlap free source on off apart room held conflict before)
    · exact answered (ownCamPut_put free source on off apart empty lowest clear)

/-! ## CAM_DROP -/

section drop

variable {s : State} {b : Byte}

theorem ownCamDrop_refused {r : Result} (refused : s.editRefusal = some r) : ownCamDrop b s = refuse s r := by
  simp only [ownCamDrop, refused]

variable (free : s.editRefusal = none)
include free

theorem ownCamDrop_outside (out : 95 < b.toNat) : ownCamDrop b s = refuse s .noSuchSlot := by
  have none : slotOf b = Option.none := Option.eq_none_iff_forall_ne_some.mpr fun i named => by
    have := slotOf_eq_some.mp named
    omega
  simp only [ownCamDrop, free, none]

variable {i : Slot} (named : i.val = b.toNat)
include named

theorem ownCamDrop_empty (empty : rd s.cam.shadow i = none) : ownCamDrop b s = refuse s .noSuchSlot := by
  simp only [ownCamDrop, free, slotOf_eq_some.mpr named.symm, empty, Option.isNone_none, if_true]

theorem ownCamDrop_held (held : rd s.cam.shadow i ≠ none) :
    ownCamDrop b s = { state := s.setShadow (wr s.cam.shadow i none), body := .code .ok } := by
  have some : (rd s.cam.shadow i).isNone = false := by simpa using Option.isSome_iff_ne_none.mpr held
  simp only [ownCamDrop, free, slotOf_eq_some.mpr named.symm, some, Bool.false_eq_true, if_false]

end drop

/-- Settles O35: the shared checks, then the slot by what it holds. -/
theorem windowDropped : Obligations.WindowDropped := by
  intro seq b s taken
  have answered {x : Answer} (h : ownCamDrop b s = x) :
      exec (.camDrop seq [b]) s = .next (x.state.answer ⟨seq, 0x43, [b]⟩ x.body x.bound) :=
    order_answered (kind := 0x43) (decode := decodeCamDrop) taken rfl h
  refine ⟨fun angle => ?_, fun angle pending => ?_, fun angle idle => ⟨fun out => ?_, fun i named => ⟨fun empty => ?_,
    fun held => ?_⟩⟩⟩
  · exact answered (ownCamDrop_refused (editRefusal_noAngle angle))
  · exact answered (ownCamDrop_refused (editRefusal_commitPending angle pending))
  · exact answered (ownCamDrop_outside (editRefusal_none angle idle) out)
  · exact answered (ownCamDrop_empty (editRefusal_none angle idle) named empty)
  · exact answered (ownCamDrop_held (editRefusal_none angle idle) named held)

/-! ## Conflicts -/

section conflicts

/-- Two pieces conflict when they share a position and their phases agree. -/
theorem rangesConflict_iff (g : Nat) (a b : PieceRange) :
    rangesConflict g a b = true ↔
      (∃ x, a.first ≤ x ∧ x < a.stop ∧ b.first ≤ x ∧ x < b.stop) ∧ a.phase % g = b.phase % g := by
  unfold rangesConflict
  rw [Bool.and_eq_true, decide_eq_true_eq, decide_eq_true_eq]
  refine and_congr_left fun _ => ⟨fun meet => ⟨max a.first b.first, by omega, by omega, by omega, by omega⟩, ?_⟩
  rintro ⟨x, a1, a2, b1, b2⟩
  omega

variable {l : Nat} {v w : Window}

theorem windowRanges_plain (plain : w.onAngle < w.offAngle) :
    windowRanges l w = [⟨w.onAngle, w.offAngle, w.phase⟩] := by
  have : windowWraps w = false := decide_eq_false (by omega)
  simp only [windowRanges, this, Bool.false_eq_true, if_false]

theorem windowRanges_wrapping (wraps : w.offAngle < w.onAngle) :
    windowRanges l w = [⟨w.onAngle, l, w.phase⟩, ⟨0, w.offAngle, (w.phase + 1) % w.divisor⟩] := by
  have : windowWraps w = true := decide_eq_true wraps
  simp only [windowRanges, this, if_true]

theorem windowsConflict_iff (output : v.output = w.output) :
    windowsConflict l v w = true ↔
      ∃ a ∈ windowRanges l v, ∃ b ∈ windowRanges l w, rangesConflict (Nat.gcd v.divisor w.divisor) a b = true := by
  simp only [windowsConflict, output, decide_true, Bool.true_and, List.any_eq_true]

end conflicts

/-- Settles O34: the pieces of each window against the pieces of the other. -/
theorem conflictOfWindows : Obligations.ConflictOfWindows := by
  refine fun l v w => ⟨fun differ => ?_, fun output vPlain wPlain => ?_, fun output vWraps wPlain => ?_,
    fun output vWraps wWraps => ?_, windowsConflict_symm l v w⟩
  · simp only [windowsConflict, differ, decide_false, Bool.false_and]
  · rw [windowsConflict_iff output, windowRanges_plain vPlain, windowRanges_plain wPlain]
    simp only [List.mem_singleton, exists_eq_left, rangesConflict_iff]
  · rw [windowsConflict_iff output, windowRanges_wrapping vWraps, windowRanges_plain wPlain]
    simp only [List.mem_cons, List.not_mem_nil, or_false, exists_eq_or_imp, exists_eq_left, rangesConflict_iff,
      Nat.zero_le, true_and]
  · rw [windowsConflict_iff output, windowRanges_wrapping vWraps, windowRanges_wrapping wWraps]
    simp only [List.mem_cons, List.not_mem_nil, or_false, exists_eq_or_imp, exists_eq_left, rangesConflict_iff,
      Nat.zero_le, true_and]
    have heads : (∃ x, v.onAngle ≤ x ∧ x < l ∧ w.onAngle ≤ x ∧ x < l) ↔ ∃ x, v.onAngle ≤ x ∧ w.onAngle ≤ x ∧ x < l :=
      exists_congr fun x => by omega
    rw [heads, or_assoc]
    exact or_congr_right (or_assoc.symm.trans or_comm)

end Sys2Proof.Laws.CamEdits
end

section
/-! SUPPORT. What the Cam Unit decides for one output at a position, an index and a swap, and how its moves are given. -/

namespace Sys2Proof.Laws.CamMoves

open Sys2Proof Sys2Proof.Machine Sys2Proof.Laws.Drive Sys2Proof.Laws.Invariants Sys2Proof.Laws.Reads
open Sys2Proof.Laws.Channels Sys2Proof.Laws.Manual

variable {s : State} {o : Output} {x : Nat} {c : Time}

/-! ## Looking into the active table -/

theorem findFor_some {t : CamTable} {test : Window → Bool} {e : Slot × Window}
    (h : CamTable.findFor t o test = some e) : rd t e.1 = some e.2 ∧ e.2.output = o ∧ test e.2 = true := by
  have holds := List.find?_some h
  simp only [Bool.and_eq_true, decide_eq_true_eq] at holds
  exact ⟨mem_windows.mp (List.mem_of_find?_eq_some h), holds⟩

theorem findFor_none {t : CamTable} {test : Window → Bool} (h : CamTable.findFor t o test = none) {i : Slot}
    {w : Window} (held : rd t i = some w) (output : w.output = o) : test w = false := by
  have fails := List.find?_eq_none.mp h (i, w) (mem_windows.mpr held)
  simpa [output] using fails

theorem windowActive_iff (w : Window) (c : Time) : windowActive w c = true ↔ c.toNat % w.divisor = w.phase :=
  decide_eq_true_iff

theorem entryAt_some {p : Pass} (h : s.entryAt o x c = some p) :
    p.entryCycle = c ∧
      ∃ w, rd s.cam.active p.slot = some w ∧ w.output = o ∧ w.onAngle = x ∧ c.toNat % w.divisor = w.phase ∧
        p.piece = if w.offAngle < w.onAngle then .head else .plain := by
  obtain ⟨e, found, rfl⟩ := Option.map_eq_some_iff.mp h
  obtain ⟨held, output, begins⟩ := findFor_some found
  simp only [Bool.and_eq_true, decide_eq_true_eq, windowActive_iff] at begins
  exact ⟨rfl, e.2, held, output, begins.1, begins.2, by simp [entryPiece, windowWraps]⟩

theorem entryAt_none (h : s.entryAt o x c = none) {i : Slot} {w : Window} (held : rd s.cam.active i = some w)
    (output : w.output = o) (angle : w.onAngle = x) : c.toNat % w.divisor ≠ w.phase := by
  have fails := findFor_none (Option.map_eq_none_iff.mp h) held output
  intro active
  simp [angle, windowActive, active] at fails

theorem carriedTail_some {p : Pass} (h : s.carriedTail c o = some p) :
    p.piece = .tail ∧ p.entryCycle = c - 1 ∧
      ∃ w, rd s.cam.active p.slot = some w ∧ w.output = o ∧ w.offAngle < w.onAngle ∧ 0 < w.offAngle ∧
        (c - 1).toNat % w.divisor = w.phase := by
  obtain ⟨e, found, rfl⟩ := Option.map_eq_some_iff.mp h
  obtain ⟨held, output, carries⟩ := findFor_some found
  simp only [windowWraps, Bool.and_eq_true, decide_eq_true_eq, windowActive_iff] at carries
  exact ⟨rfl, rfl, e.2, held, output, carries.1.1, carries.1.2, carries.2⟩

theorem carriedTail_none (h : s.carriedTail c o = none) {i : Slot} {w : Window} (held : rd s.cam.active i = some w)
    (output : w.output = o) (wraps : w.offAngle < w.onAngle) (tail : 0 < w.offAngle) :
    (c - 1).toNat % w.divisor ≠ w.phase := by
  have fails := findFor_none (Option.map_eq_none_iff.mp h) held output
  intro active
  have active := (windowActive_iff w (c - 1)).mpr active
  simp only [windowWraps, wraps, tail, active, decide_true, Bool.and_self, reduceCtorEq] at fails

/-! ## The moves -/

section moves

variable {p q : Pass} {w : Window}

theorem pulseMove_absent (pass : s.pass o = none) (entry : s.entryAt o x s.tracker.cycle = none) :
    s.pulseMove x o = .none := by
  simp only [State.pulseMove, pass, entry, exitEntry]

theorem pulseMove_rise (pass : s.pass o = none) (entry : s.entryAt o x s.tracker.cycle = some p) :
    s.pulseMove x o = .rise p := by
  simp only [State.pulseMove, pass, entry, exitEntry]

theorem passHolds_of_held (held : rd s.cam.active p.slot = some w) : s.passHolds p x = pieceHolds w x p.piece := by
  simp only [State.passHolds, held]

section present

variable (pass : s.pass o = some p)
include pass

theorem pulseMove_stays (holds : s.passHolds p x = true) : s.pulseMove x o = .none := by
  simp only [State.pulseMove, pass, holds]
  cases s.entryAt o x s.tracker.cycle <;> rfl

theorem pulseMove_fall (left : s.passHolds p x = false) (entry : s.entryAt o x s.tracker.cycle = none) :
    s.pulseMove x o = .fall := by
  simp only [State.pulseMove, pass, left, entry]
  rfl

theorem pulseMove_handover (left : s.passHolds p x = false) (entry : s.entryAt o x s.tracker.cycle = some q) :
    s.pulseMove x o = .handover q := by
  simp only [State.pulseMove, pass, left, entry]
  rfl

theorem indexMove_keep (head : p.piece = .head) (held : rd s.cam.active p.slot = some w) (tail : 0 < w.offAngle) :
    s.indexMove c o = .keep { p with piece := .tail } := by
  simp only [State.indexMove, pass, head, held, tail, if_true]

/-- A pass that no tail continues is settled by exit and entry. -/
theorem indexMove_exits (ends : p.piece ≠ .head ∨ ∃ w, rd s.cam.active p.slot = some w ∧ w.offAngle = 0) :
    s.indexMove c o = exitEntry true true (s.entryAt o 0 c) := by
  unfold State.indexMove
  simp only [pass]
  split
  · next w head held =>
    obtain ⟨w', held', zero⟩ := ends.resolve_left (not_not.mpr head)
    obtain rfl := Option.some.inj (held.symm.trans held')
    rw [zero, if_neg (Nat.lt_irrefl 0)]
  · rfl

theorem swapMove_carried (carried : s.carriedTail c o = some q) : s.swapMove c o = .handover q := by
  simp only [State.swapMove, pass, carried]

theorem swapMove_exits (carried : s.carriedTail c o = none) :
    s.swapMove c o = exitEntry true true (s.entryAt o 0 c) := by
  simp only [State.swapMove, pass, carried]

end present

theorem indexMove_absent (pass : s.pass o = none) : s.indexMove c o = exitEntry false false (s.entryAt o 0 c) := by
  simp only [State.indexMove, pass]

theorem swapMove_absent (pass : s.pass o = none) : s.swapMove c o = exitEntry false false (s.entryAt o 0 c) := by
  simp only [State.swapMove, pass]

end moves

theorem camOutputs_eq (s : State) :
    s.camOutputs = (List.finRange 16).filter fun o => (s.profile o).source = .cam := by
  rw [State.camOutputs, allOutputs_eq]

/-- The moves of an event, given output by output. -/
theorem camRounds_eq (s : State) (move : Output → CamMove) :
    s.camRounds move =
      s.camOutputs.foldl (fun t o => t.secondRound (o, move o))
        (s.camOutputs.foldl (fun t o => t.firstRound (o, move o)) s) := by
  simp only [State.camRounds, List.foldl_map]

/-! ## The channel's part -/

section channel

variable {p : Pass} {t : State} {slot : Slot} {g : Origin}

theorem demandHandover_demand (present : (s.chan o).demand ≠ none) :
    s.demandHandover o slot = s.setChan o { s.chan o with demand := some (.cam slot) } := by
  simp only [State.demandHandover, Option.isSome_iff_ne_none.mpr present, if_true]

theorem demandHandover_remembered (absent : (s.chan o).demand = none) (present : (s.chan o).remembered ≠ none) :
    s.demandHandover o slot = s.setChan o { s.chan o with remembered := some (.cam slot) } := by
  simp only [State.demandHandover, absent, Option.isSome_none, Bool.false_eq_true, if_false,
    Option.isSome_iff_ne_none.mpr present, if_true]

theorem demandHandover_none (absent : (s.chan o).demand = none) (forgotten : (s.chan o).remembered = none) :
    s.demandHandover o slot = s := by
  simp only [State.demandHandover, absent, forgotten, Option.isSome_none, Bool.false_eq_true, if_false]

theorem camFall_absent (pass : s.pass o = none) : s.camFall o = s := by
  simp only [State.camFall, pass]

theorem demandFall_now (s : State) (o : Output) : (s.demandFall o).2.now = s.now := by
  have calm : Calm (fun _ => False) s (s.demandFall o).2 := Acts.demandFall.toCalm
  exact congrArg (·.1) calm.outside

variable (pass : s.pass o = some p)
include pass

theorem camFall_served (fell : (s.setPass o none).demandFall o = (false, t)) : s.camFall o = t := by
  simp only [State.camFall, pass, fell]

theorem camFall_unserved (fell : (s.setPass o none).demandFall o = (true, t)) :
    s.camFall o = t.post (.camSkipped o p.slot p.entryCycle .unserved s.now) := by
  have now : t.now = s.now := by
    have kept := demandFall_now (s.setPass o none) o
    rw [fell] at kept
    exact kept
  simp only [State.camFall, pass, fell, now]

omit pass in
/-- A refusal by the set leaves the pass and the clock. -/
theorem riseFromOff_refused_keeps (refused : s.riseFromOff o g = (.refused, t)) :
    t.pass o = s.pass o ∧ t.now = s.now := by
  unfold State.riseFromOff at refused
  dsimp only at refused
  split at refused
  · simp at refused
  · split at refused
    · simp at refused
    · split at refused
      · simp at refused
      · obtain rfl := (Prod.mk.inj refused).2
        exact ⟨captureConflict_pass .., captureConflict_now ..⟩

theorem demandRise_cam_refused (state : (s.chan o).state = .off) (refused : s.riseFromOff o (.cam slot) = (.refused, t)) :
    s.demandRise o (.cam slot) = (t.setPass o none).post (.camSkipped o p.slot p.entryCycle .deferExpired s.now) := by
  obtain ⟨pass', now⟩ := riseFromOff_refused_keeps refused
  rw [demandRise_off state refused, if_pos rfl]
  simp only [State.reportRefused, pass', pass, now]

end channel

theorem demandRise_manual_refused {i : SetId} (state : (s.chan o).state = .off) (set : (s.profile o).iset = some i)
    (full : (s.iset i).capacity ≤ (s.iset i).occupants.length) (limit : (s.iset i).deferLimit = 0) :
    s.demandRise o .manual =
      (((s.setChan o { s.chan o with demand := some .manual }).captureConflict o i .manual).setChan o
        { s.chan o with manualDemand := false, demand := none }).post (.manualDropped o (some i) s.now) := by
  rw [demandRise_off state (riseFromOff_refused .manual set full limit), if_pos rfl]
  simp only [State.reportRefused, State.setChan_setChan, State.setChan_chan_self, State.setChan_profile,
    captureConflict_profile, set, State.setChan_now, captureConflict_now]

theorem demandRise_inhibited {g : Origin} (state : (s.chan o).state = .inhibited) :
    s.demandRise o g = s.reportEnded o (some g) := by
  simp only [State.demandRise, state]

/-- Settles O40: the moves decided by the pass and the entry, given in two rounds, and what the channel makes of them. -/
theorem camMovesDecided : Obligations.CamMovesDecided := by
  refine ⟨fun s x o => ⟨fun p => entryAt_some, fun entry i w => entryAt_none entry, pulseMove_absent,
      fun p pass => pulseMove_rise pass, fun p w pass held => ?_⟩,
    fun s c o => ⟨fun p w pass head held => indexMove_keep pass head held, fun p pass ends => ⟨fun entry => ?_, fun q entry => ?_⟩,
      fun pass => ⟨fun entry => ?_, fun q entry => ?_⟩⟩, fun s move => ?_,
    fun s o => ⟨fun slot => demandHandover_demand, fun slot => demandHandover_remembered,
      fun slot => demandHandover_none, camFall_absent, fun p t => camFall_served, fun p t => camFall_unserved,
      fun g => demandRise_recover, fun slot state => ?_, fun g t state risen => ?_,
      fun slot p t state pass => demandRise_cam_refused pass state, fun i => demandRise_manual_refused, fun state => ?_⟩⟩
  · intro inside
    have holds : s.passHolds p x = true ↔ inside := by
      rw [passHolds_of_held held]
      simp only [inside]
      cases p.piece <;> simp [pieceHolds]
    have left (out : ¬ inside) : s.passHolds p x = false := Bool.eq_false_iff.mpr (mt holds.mp out)
    exact ⟨fun stays => pulseMove_stays pass (holds.mpr stays), fun out entry => pulseMove_fall pass (left out) entry,
      fun q out entry => pulseMove_handover pass (left out) entry⟩
  · exact (indexMove_exits pass ends).trans (congrArg (exitEntry true true) entry)
  · exact (indexMove_exits pass ends).trans (congrArg (exitEntry true true) entry)
  · exact (indexMove_absent pass).trans (congrArg (exitEntry false false) entry)
  · exact (indexMove_absent pass).trans (congrArg (exitEntry false false) entry)
  · intro outs first second
    have firsts : (fun t o => State.firstRound t (o, move o)) = first := funext₂ fun t o => by
      cases moved : move o <;> simp only [State.firstRound, first, moved]
    have seconds : (fun t o => State.secondRound t (o, move o)) = second := funext₂ fun t o => by
      cases moved : move o <;> simp only [State.secondRound, second, moved]
    refine ⟨?_, congrArg (List.foldl State.camFall s) (camOutputs_eq s)⟩
    rw [camRounds_eq, camOutputs_eq, firsts, seconds]
  · exact demandRise_inhibited state
  · rcases risen with risen | risen <;> rw [demandRise_off state risen, if_neg (by simp)]
  · exact demandRise_inhibited state

end Sys2Proof.Laws.CamMoves
end

section
/-! SUPPORT. When a pending commit lands, and what the tracker makes of pulses, indexes and its orders. -/

namespace Sys2Proof.Laws.Shaft

open Sys2Proof Sys2Proof.Machine Sys2Proof.Laws.Drive Sys2Proof.Laws.Invariants Sys2Proof.Laws.Reads
open Sys2Proof.Laws.CamTables Sys2Proof.Laws.CamMoves Sys2Proof.Laws.Modes

variable {s t : State}

/-! ## Commits -/

/-- A commit, with the tables and the tracker of an earlier state. -/
theorem takeCommit_eq (cause : CommitCause) (shadow : t.cam.shadow = s.cam.shadow) (tracker : t.tracker = s.tracker) :
    t.takeCommit cause =
      State.post { t with cam := { t.cam with active := s.cam.shadow, commitPending := false } }
        (.camCommitted cause s.tracker.cycle
          ((List.finRange 96).filter fun i => (rd s.cam.shadow i).isSome).length) := by
  simp only [State.takeCommit, shadow, tracker, count_eq_occupied]

/-- A commit has landed: the active table is the former shadow, which stays, and no commit is pending. -/
def Landed (s t : State) : Prop :=
  t.cam.active = s.cam.shadow ∧ t.cam.shadow = s.cam.shadow ∧ t.cam.commitPending = false

theorem takeCommit_landed (cause : CommitCause) (shadow : t.cam.shadow = s.cam.shadow) :
    Landed s (t.takeCommit cause) := by
  unfold State.takeCommit
  rw [post_frame]
  exact ⟨shadow, shadow, rfl⟩

theorem Landed.calm {W : Output → Prop} {u : State} (h : Landed s t) (c : Calm W t u) : Landed s u := by
  obtain ⟨active, shadow, none⟩ := h
  exact ⟨(outside_active c.outside).trans active, (outside_shadow c.outside).trans shadow,
    (outside_commit c.outside).trans none⟩

theorem takePending_idle (cause : CommitCause) (idle : s.cam.commitPending = false) : s.takePending cause = s := by
  simp only [State.takePending, idle, Bool.false_eq_true, if_false]

theorem takePending_pending (cause : CommitCause) (pending : s.cam.commitPending = true) :
    s.takePending cause = s.takeCommit cause := by
  simp only [State.takePending, pending, if_true]

theorem camIndex_off (c : Time) (off : s.mode ≠ .run) : s.camIndex c = s := by
  simp only [State.camIndex, off, if_false]

theorem camIndex_moves (c : Time) (run : s.mode = .run) (idle : s.cam.commitPending = false) :
    s.camIndex c = s.camRounds (s.indexMove c) := by
  simp only [State.camIndex, run, idle, if_true, Bool.false_eq_true, if_false]

theorem camIndex_swaps (c : Time) (run : s.mode = .run) (pending : s.cam.commitPending = true) :
    s.camIndex c = (s.takeCommit .index).camRounds ((s.takeCommit .index).swapMove c) := by
  simp only [State.camIndex, run, pending, if_true]

/-! ## The Cam Unit takes a change of tracker state -/

section change

variable {old new : TrackerState}

/-- The passes end where the tracker leaves SYNCED. -/
def passesEnded (s : State) (old new : TrackerState) : State :=
  if old = .synced ∧ new ≠ .synced then s.endPasses else s

theorem camStateChange_stays (h : old.tracking = false ∨ new.tracking = true) :
    s.camStateChange old new = passesEnded s old new := by
  refine if_neg ?_
  rintro ⟨was, left⟩
  rcases h with off | on
  · exact absurd (off.symm.trans was) (by simp)
  · simp [on] at left

theorem camStateChange_leaves (was : old.tracking = true) (left : new.tracking = false) :
    s.camStateChange old new = (passesEnded s old new).takePending .tracker :=
  if_pos ⟨was, by rw [left]; rfl⟩

theorem passesEnded_ends (was : old = .synced) (left : new ≠ .synced) : passesEnded s old new = s.endPasses :=
  if_pos ⟨was, left⟩

theorem passesEnded_none (h : old ≠ .synced ∨ new = .synced) : passesEnded s old new = s := by
  refine if_neg ?_
  rintro ⟨was, left⟩
  exact h.elim (· was) left

theorem passesEnded_calm (s : State) (old new : TrackerState) : Calm (fun _ => False) s (passesEnded s old new) := by
  unfold passesEnded
  split
  · exact Acts.endPasses.toCalm
  · exact .refl

/-- A change the Cam Unit has no part in. -/
theorem camStateChange_none (h : old = .synced ∧ new = .synced ∨ old = .stalled ∧ (new = .synced ∨ new = .stalled) ∨
    old ≠ .synced ∧ old ≠ .stalled) : s.camStateChange old new = s := by
  rw [camStateChange_stays, passesEnded_none]
  · rcases h with ⟨-, new⟩ | ⟨rfl, -⟩ | ⟨old, -⟩
    · exact .inr new
    · exact .inl (by simp)
    · exact .inl old
  · rcases h with ⟨-, rfl⟩ | ⟨-, new⟩ | ⟨synced, stalled⟩
    · exact .inr rfl
    · exact .inr ((tracking_iff _).mpr new)
    · exact .inl (Bool.eq_false_iff.mpr fun on => ((tracking_iff _).mp on).elim synced stalled)

theorem tracking_false (synced : new ≠ .synced) (stalled : new ≠ .stalled) : new.tracking = false :=
  Bool.eq_false_iff.mpr fun on => ((tracking_iff _).mp on).elim synced stalled

end change

/-- Settles O41: a commit lands at an index, a change of tracker state and the end of RUN, and what a swap moves. -/
theorem pendingCommitLands : Obligations.PendingCommitLands := by
  refine ⟨fun s pending => ⟨fun c run => ?_, fun a b was synced stalled => ?_, fun m off => ?_, fun a b on => ?_⟩,
    fun s c => ⟨camIndex_off c, camIndex_moves c, fun run pending => ?_⟩,
    fun s c o => ⟨fun p => carriedTail_some, fun none i w => carriedTail_none none,
      fun p q pass carried => swapMove_carried pass carried, fun p q pass carried entry => ?_, fun p pass carried entry => ?_,
      fun q pass entry => ?_, fun pass entry => ?_⟩,
    fun s old new => ⟨fun was now => ?_, fun was synced stalled => ⟨fun idle => ?_, fun pending => ?_⟩,
      fun was synced stalled => ⟨fun idle => ?_, fun pending => ?_⟩, camStateChange_none⟩⟩
  · rw [camIndex_swaps c run pending]
    exact (takeCommit_landed .index rfl : Landed s (s.takeCommit .index)).calm (Acts.camRounds _).toCalm
  · have ended := (passesEnded_calm s a b).outside
    rw [camStateChange_leaves ((tracking_iff a).mpr was) (tracking_false synced stalled),
      takePending_pending .tracker ((outside_commit ended).trans pending)]
    exact takeCommit_landed .tracker (outside_shadow ended)
  · have reported := (reportAll_reported { s with mode := m } allOutputs).outside
    rw [changeMode_commits off pending]
    dsimp only
    rw [post_frame]
    have shadow := outside_shadow reported
    exact ⟨shadow, shadow, rfl⟩
  · rw [camStateChange_stays (.inr ((tracking_iff b).mpr on))]
    exact outside_active (passesEnded_calm s a b).outside
  · intro n t
    have commit : s.takeCommit .index = t := takeCommit_eq .index rfl rfl
    rw [camIndex_swaps c run pending, commit]
  · exact (swapMove_exits pass carried).trans (congrArg (exitEntry true true) entry)
  · exact (swapMove_exits pass carried).trans (congrArg (exitEntry true true) entry)
  · exact (swapMove_absent pass).trans (congrArg (exitEntry false false) entry)
  · exact (swapMove_absent pass).trans (congrArg (exitEntry false false) entry)
  · rw [camStateChange_stays (.inr ((tracking_iff new).mpr (.inr now))), passesEnded_ends was (by simp [now])]
  all_goals rw [camStateChange_leaves (by simp [was, TrackerState.tracking]) (tracking_false synced stalled)]
  · rw [passesEnded_ends was synced, takePending_idle]
    have ended : Calm (fun _ => False) s s.endPasses := Acts.endPasses.toCalm
    exact (outside_commit ended.outside).trans idle
  · have ended : Calm (fun _ => False) s s.endPasses := Acts.endPasses.toCalm
    rw [passesEnded_ends was synced, takePending_pending _ ((outside_commit ended.outside).trans pending)]
    exact takeCommit_eq .tracker (outside_shadow ended.outside) (outside_tracker ended.outside)
  · rw [passesEnded_none (.inl (by simp [was])), takePending_idle _ idle]
  · rw [passesEnded_none (.inl (by simp [was])), takePending_pending _ pending]
    exact takeCommit_eq .tracker rfl rfl

end Sys2Proof.Laws.Shaft
end

section
/-! SUPPORT. The Angle Tracker: pulses, the stall timer, indexes, and the orders SET_ANGLE and SET_CYCLE. -/

namespace Sys2Proof.Laws.Tracking

open Sys2Proof Sys2Proof.Machine Sys2Proof.Laws.Drive Sys2Proof.Laws.Invariants Sys2Proof.Laws.Reads
open Sys2Proof.Laws.CamTables Sys2Proof.Laws.CamMoves Sys2Proof.Laws.Shaft

variable {s : State} {t : Tracker}

/-! ## Changes of tracker state -/

/-- The stall timer as it stands once restarted. -/
def stallRestarted (s : State) : Option Time :=
  if s.tracker.stallTimeout = 0 then none else some (s.now + BitVec.ofNat 32 (s.tracker.stallTimeout * 1000))

theorem trackerTo_eq (cause : TrackerCause) {a b : TrackerState} (old : s.tracker.state = a) (new : t.state = b) :
    s.trackerTo t cause =
      (State.post { s with tracker := t } (.tracker a b cause)).camStateChange a b := by
  subst old new
  rfl

/-- A change of state the Cam Unit has no part in. -/
theorem trackerTo_quiet (cause : TrackerCause) {a b : TrackerState} (old : s.tracker.state = a) (new : t.state = b)
    (none : a = .synced ∧ b = .synced ∨ a = .stalled ∧ (b = .synced ∨ b = .stalled) ∨ a ≠ .synced ∧ a ≠ .stalled) :
    s.trackerTo t cause = State.post { s with tracker := t } (.tracker a b cause) := by
  rw [trackerTo_eq cause old new, camStateChange_none none]

/-! ## Pulses -/

section pulses

theorem pulse_ignored (h : s.tracker.state = .off ∨ s.tracker.state = .unsynced) : s.pulse = s := by
  rcases h with h | h <;> simp only [State.pulse, h]

theorem pulse_verifying (h : s.tracker.state = .verifying) :
    s.pulse =
      { s with tracker := { s.tracker with
        pulses := min (s.tracker.pulses + 1) (s.tracker.cycleLength + s.tracker.tolerance + 1) } } := by
  simp only [State.pulse, h]
  rfl

theorem pulse_synced (h : s.tracker.state = .synced) : s.pulse = s.pulseSynced := by
  simp only [State.pulse, h]

theorem pulse_stalled (h : s.tracker.state = .stalled) : s.pulse = s.motion.pulseSynced := by
  simp only [State.pulse, h]

theorem motion_eq (h : s.tracker.state = .stalled) :
    s.motion =
      State.post { s with tracker := { s.tracker with state := .synced, stallTimer := stallRestarted s } }
        (.tracker .stalled .synced .motion) :=
  trackerTo_quiet .motion h rfl (.inr (.inl ⟨rfl, .inl rfl⟩))

/-- The state a counted pulse leaves before the Cam Unit looks at its position. -/
def counted (s : State) : State :=
  { s with tracker := { s.tracker with
    pulses := s.tracker.pulses + 1, position := min (s.tracker.pulses + 1) (s.tracker.cycleLength - 1)
    stallTimer := stallRestarted s } }

theorem pulseSynced_counts (below : s.tracker.pulses < s.tracker.cycleLength + s.tracker.tolerance) :
    s.pulseSynced =
      if (counted s).tracker.position = s.tracker.position then counted s
      else (counted s).camPosition (counted s).tracker.position :=
  if_pos below

theorem pulseSynced_loses (synced : s.tracker.state = .synced)
    (full : ¬ s.tracker.pulses < s.tracker.cycleLength + s.tracker.tolerance) :
    s.pulseSynced =
      (State.post { s with tracker := { s.tracker with state := .unsynced, pulses := 0, position := 0, stallTimer := none } }
        (.tracker .synced .unsynced .indexMissing)).camStateChange .synced .unsynced := by
  have loses : s.pulseSynced =
      s.trackerTo { s.tracker with state := .unsynced, pulses := 0, position := 0, stallTimer := none } .indexMissing :=
    if_neg full
  rw [loses, trackerTo_eq .indexMissing synced rfl]

theorem stallExpiry_early (early : timerDue s.now s.tracker.stallTimer = false) : s.stallExpiry = s := by
  simp only [State.stallExpiry, early, Bool.false_eq_true, false_and, if_false]

theorem stallExpiry_stalls (came : timerDue s.now s.tracker.stallTimer = true) (synced : s.tracker.state = .synced) :
    s.stallExpiry =
      State.endPasses (State.post { s with tracker := { s.tracker with state := .stalled, stallTimer := none } }
        (.tracker .synced .stalled .stall)) := by
  have stalls : s.stallExpiry = s.trackerTo { s.tracker with state := .stalled, stallTimer := none } .stall :=
    if_pos ⟨came, synced⟩
  rw [stalls, trackerTo_eq .stall synced rfl, camStateChange_stays (.inr rfl), passesEnded_ends rfl (by simp)]

end pulses

/-- Settles O38: a pulse by the tracker's state, the stall timer by whether it is due. -/
theorem pulseAndStallTaken : Obligations.PulseAndStallTaken := by
  refine ⟨fun s running => ?_, fun s running => ⟨fun came synced => ?_, fun early => ?_, fun o => endPasses_pass s⟩⟩
  · have taken : exec .encPulse s = .next s.pulse := event_taken (f := State.pulse) running
    refine ⟨fun h => ?_, fun verifying room => ?_, fun verifying full => ?_,
      fun synced below => ⟨fun same => ?_, fun moved off => ?_, fun moved run => ?_⟩, fun synced full => ?_,
      fun stalled => ?_⟩
    · rw [taken, pulse_ignored h]
    · rw [taken, pulse_verifying verifying, Nat.min_eq_left (by omega)]
    · rw [taken, pulse_verifying verifying, Nat.min_eq_right (by omega), ← full]
    · rw [taken, pulse_synced synced, pulseSynced_counts below]
      exact congrArg _ (if_pos same)
    · rw [taken, pulse_synced synced, pulseSynced_counts below]
      refine congrArg _ ((if_neg moved).trans ?_)
      exact if_neg off
    · rw [taken, pulse_synced synced, pulseSynced_counts below]
      refine congrArg _ ((if_neg moved).trans ?_)
      exact if_pos run
    · rw [taken, pulse_synced synced, pulseSynced_loses synced (by omega)]
    · rw [taken, pulse_stalled stalled, motion_eq stalled]
      rfl
  · refine (event_taken (f := State.stallExpiry) running).trans ?_
    rw [stallExpiry_stalls came synced]
  · refine (event_taken (f := State.stallExpiry) running).trans ?_
    rw [stallExpiry_early early]

/-! ## Indexes -/

section indexes

/-- The pulse count lies where an index is accepted. -/
def Inside (t : Tracker) : Prop :=
  t.cycleLength ≤ t.pulses + t.tolerance ∧ t.pulses ≤ t.cycleLength + t.tolerance

theorem inRange_iff (t : Tracker) : t.inRange = true ↔ Inside t := by
  simp only [Tracker.inRange, Inside, Bool.and_eq_true, decide_eq_true_eq]

theorem inRange_false {t : Tracker} (out : ¬ Inside t) : t.inRange = false :=
  Bool.eq_false_iff.mpr (mt (inRange_iff t).mp out)

theorem index_off (h : s.tracker.state = .off) : s.index = s := by
  simp only [State.index, h]

theorem index_first (h : s.tracker.state = .unsynced) :
    s.index =
      State.post { s with tracker := { s.tracker with state := .verifying, pulses := 0 } }
        (.tracker .unsynced .verifying .firstIndex) := by
  simp only [State.index, h]
  exact trackerTo_quiet .firstIndex h rfl (.inr (.inr ⟨by simp, by simp⟩))

theorem index_verified (h : s.tracker.state = .verifying) (inside : Inside s.tracker) :
    s.index =
      State.post
        { s with tracker := { s.tracker with
          state := .synced, cycle := s.tracker.cycle + 1, pulses := 0, position := 0, stallTimer := stallRestarted s } }
        (.tracker .verifying .synced .verified) := by
  simp only [State.index, h, (inRange_iff _).mpr inside, if_true]
  exact trackerTo_quiet .verified h rfl (.inr (.inr ⟨by simp, by simp⟩))

theorem index_recounts (h : s.tracker.state = .verifying) (out : ¬ Inside s.tracker) :
    s.index = { s with tracker := { s.tracker with pulses := 0 } } := by
  simp only [State.index, h, inRange_false out, Bool.false_eq_true, if_false]
  rfl

theorem index_accepts (h : s.tracker.state = .synced) (inside : Inside s.tracker) : s.index = s.acceptIndex := by
  simp only [State.index, h, (inRange_iff _).mpr inside, if_true]

theorem index_moves (h : s.tracker.state = .stalled) (inside : Inside s.tracker) :
    s.index = s.motion.acceptIndex := by
  simp only [State.index, h, (inRange_iff _).mpr inside, if_true]

theorem index_loses (h : s.tracker.state = .synced ∨ s.tracker.state = .stalled) (out : ¬ Inside s.tracker) :
    s.index = s.loseSync := by
  rcases h with h | h <;> simp only [State.index, h, inRange_false out, Bool.false_eq_true, if_false]

/-- The cycle boundary an accepted index makes. -/
theorem acceptIndex_eq {c : Time} (cycle : s.tracker.cycle = c) :
    s.acceptIndex =
      State.camIndex { s with tracker := { s.tracker with cycle := c + 1, pulses := 0, position := 0 } } (c + 1) := by
  subst cycle
  rfl

end indexes

/-- Settles O39: an index by the tracker's state and the pulse count. -/
theorem indexTaken : Obligations.IndexTaken := by
  intro s running
  have taken : exec .idxIndex s = .next s.index := event_taken (f := State.index) running
  refine ⟨fun off => ?_, fun unsynced => ?_, fun verifying inside => ?_, fun verifying out => ?_, fun synced inside => ?_,
    fun stalled inside => ?_, fun tracking out => ?_⟩
  · rw [taken, index_off off]
  · rw [taken, index_first unsynced]
  · rw [taken, index_verified verifying inside]
    rfl
  · rw [taken, index_recounts verifying out]
  · rw [taken, index_accepts synced inside, acceptIndex_eq rfl]
  · have cycle : s.motion.tracker.cycle = s.tracker.cycle := by
      rw [motion_tracker]
      rfl
    rw [taken, index_moves stalled inside, acceptIndex_eq cycle, motion_eq stalled]
    rfl
  · rw [taken, index_loses tracking out]
    rfl

/-! ## Orders -/

section orders

variable {a : AngleFields}

theorem camOutputs_ne_nil_iff (s : State) : s.camOutputs ≠ [] ↔ ∃ o, (s.profile o).source = .cam := by
  rw [camOutputs_eq]
  simp [List.filter_eq_nil_iff]

theorem reaches_iff (t : CamTable) (l : Nat) :
    CamTable.reaches t l = true ↔ ∃ i w, rd t i = some w ∧ (l ≤ w.onAngle ∨ l ≤ w.offAngle) := by
  simp only [CamTable.reaches, List.any_eq_true, Prod.exists, mem_windows, Bool.or_eq_true, decide_eq_true_eq]

/-- A window of a table has an angle that a cycle length does not hold. -/
def Reached (s : State) (l : Nat) : Prop :=
  ∃ i w, (rd s.cam.active i = some w ∨ rd s.cam.shadow i = some w) ∧ (l ≤ w.onAngle ∨ l ≤ w.offAngle)

theorem reached_iff (s : State) (l : Nat) :
    (CamTable.reaches s.cam.active l = true ∨ CamTable.reaches s.cam.shadow l = true) ↔ Reached s l := by
  simp only [reaches_iff, Reached, or_and_right, exists_or]

theorem ownSetAngle_wrongMode (mode : s.mode ≠ .idle) : ownSetAngle a s = refuse s .wrongMode := by
  simp only [ownSetAngle, mode, ne_eq, not_false_eq_true, if_true]

variable (mode : s.mode = .idle)
include mode

theorem ownSetAngle_badField (on : a.cycleLength ≠ 0) (wide : a.cycleLength ≤ 4 * a.tolerance) :
    ownSetAngle a s = refuse s .badField := by
  have bad : a.cycleLength ≠ 0 ∧ a.cycleLength ≤ 4 * a.tolerance := ⟨on, wide⟩
  simp only [ownSetAngle, mode, ne_eq, not_true_eq_false, if_false]
  exact if_pos bad

theorem ownSetAngle_camUsed (off : a.cycleLength = 0) (used : ∃ o, (s.profile o).source = .cam) :
    ownSetAngle a s = refuse s .inUse := by
  have outputs := (camOutputs_ne_nil_iff s).mpr used
  simp only [ownSetAngle, mode, ne_eq, not_true_eq_false, if_false, off, false_and, outputs, not_false_eq_true, and_self,
    if_true]

theorem ownSetAngle_reached (narrow : 4 * a.tolerance < a.cycleLength) (reached : Reached s a.cycleLength) :
    ownSetAngle a s = refuse s .inUse := by
  have on : a.cycleLength ≠ 0 := by omega
  simp only [ownSetAngle, mode, ne_eq, not_true_eq_false, if_false, on, not_false_eq_true, true_and, false_and,
    Nat.not_le.mpr narrow, (reached_iff ..).mpr reached, if_true]

/-- An accepted SET_ANGLE restarts synchronisation. -/
theorem ownSetAngle_accepted
    (h : a.cycleLength = 0 ∧ (¬ ∃ o, (s.profile o).source = .cam) ∨
      4 * a.tolerance < a.cycleLength ∧ ¬ Reached s a.cycleLength) :
    ownSetAngle a s =
      { state :=
          if (s.tracker.configured a).state = s.tracker.state then s.setTracker (s.tracker.configured a)
          else s.trackerTo (s.tracker.configured a) .config
        body := .code .ok } := by
  have bad : ¬ (a.cycleLength ≠ 0 ∧ a.cycleLength ≤ 4 * a.tolerance) := by
    rintro ⟨on, wide⟩
    rcases h with ⟨off, -⟩ | ⟨narrow, -⟩ <;> omega
  have used : ¬ (a.cycleLength = 0 ∧ s.camOutputs ≠ []) := by
    rintro ⟨off, outputs⟩
    rcases h with ⟨-, unused⟩ | ⟨narrow, -⟩
    · exact unused ((camOutputs_ne_nil_iff s).mp outputs)
    · omega
  have held : ¬ (a.cycleLength ≠ 0 ∧ (CamTable.reaches s.cam.active a.cycleLength = true ∨
      CamTable.reaches s.cam.shadow a.cycleLength = true)) := by
    rintro ⟨on, reached⟩
    rcases h with ⟨off, -⟩ | ⟨-, unreached⟩
    · exact on off
    · exact unreached ((reached_iff ..).mp reached)
  simp only [ownSetAngle, mode, ne_eq, not_true_eq_false, if_false]
  exact (if_neg bad).trans ((if_neg used).trans (if_neg held))

end orders

/-- Without passes and without a pending commit, the Cam Unit has nothing to do at a change of tracker state. -/
theorem camStateChange_nothing {old new : TrackerState} (passes : ∀ o, s.pass o = none)
    (idle : s.cam.commitPending = false) : s.camStateChange old new = s := by
  have falls (os : List Output) : os.foldl State.camFall s = s := by
    induction os with
    | nil => rfl
    | cons o os ih => rw [List.foldl_cons, camFall_absent (passes o), ih]
  have ended : passesEnded s old new = s := by
    unfold passesEnded
    split
    · exact falls _
    · rfl
  change (if _ then (passesEnded s old new).takePending .tracker else passesEnded s old new) = s
  rw [ended, takePending_idle _ idle, ite_self]

/-- Settles O42: SET_ANGLE's refusals in order and the tracker it leaves, and SET_CYCLE. -/
theorem angleAndCycleSet : Obligations.AngleAndCycleSet := by
  refine ⟨fun seq body s a taken decoded => ?_, fun seq b0 b1 b2 b3 s taken => ?_⟩
  · have answered {x : Answer} (h : ownSetAngle a s = x) :
        exec (.setAngle seq body) s = .next (x.state.answer ⟨seq, 0x40, body⟩ x.body x.bound) :=
      order_answered taken decoded h
    refine ⟨fun mode => answered (ownSetAngle_wrongMode mode), fun mode on wide => answered (ownSetAngle_badField mode on wide),
      fun mode off used => answered (ownSetAngle_camUsed mode off used),
      fun mode narrow reached => answered (ownSetAngle_reached mode narrow reached),
      fun mode free => ⟨fun same => ?_, fun differs passes idle => ?_⟩⟩
    · refine (answered (ownSetAngle_accepted mode free)).trans ?_
      dsimp only
      rw [if_pos (by exact same)]
      rfl
    · refine (answered (ownSetAngle_accepted mode free)).trans ?_
      dsimp only
      rw [if_neg (by exact differs), trackerTo_eq .config rfl rfl, camStateChange_nothing]
      · rfl
      · intro o
        rw [pass_of_cam (congrArg CamUnit.passes (post_cam ..))]
        exact passes o
      · rw [post_cam]
        exact idle
  · exact order_answered (kind := 0x41) (owner := ownSetCycle) (decode := decodeSetCycle) taken rfl rfl

end Sys2Proof.Laws.Tracking
end

section
/-! SUPPORT. The fault inputs and the rail monitor: their orders, and what a sample of each makes of its record. -/

namespace Sys2Proof.Laws.Sensors

open Sys2Proof Sys2Proof.Machine Sys2Proof.Laws.Reads Sys2Proof.Laws.Trips

variable {s : State}

/-! ## SET_FAULTIN -/

section faultin

variable {a : FaultinFields}

/-- The state once a SET_FAULTIN has written its record. -/
def faultinSet (a : FaultinFields) (s : State) : State :=
  s.setFaultIn a.input
    ⟨a.activeLevel, a.period, a.depth, a.activeLevel.other, 0, s.now + BitVec.ofNat 32 a.period⟩

theorem active_iff (f : FaultIn) : f.active = true ↔ f.filtered = f.activeLevel := decide_eq_true_iff

theorem ownSetFaultin_wrongMode (mode : s.mode ≠ .idle) : ownSetFaultin a s = refuse s .wrongMode :=
  if_pos mode

variable (mode : s.mode = .idle)
include mode

theorem ownSetFaultin_inactive (inactive : (s.faultIn a.input).filtered ≠ (s.faultIn a.input).activeLevel) :
    ownSetFaultin a s = { state := faultinSet a s, body := .code .ok } := by
  have off : (s.faultIn a.input).active = false := Bool.eq_false_iff.mpr (mt (active_iff _).mp inactive)
  simp only [ownSetFaultin, mode, ne_eq, not_true_eq_false, if_false, off, Bool.false_eq_true]
  rfl

theorem ownSetFaultin_active (active : (s.faultIn a.input).filtered = (s.faultIn a.input).activeLevel) :
    ownSetFaultin a s =
      { state := (faultinSet a s).sourceChange (BitVec.ofNat 8 (2 ^ a.input.val)), body := .code .ok } := by
  simp only [ownSetFaultin, mode, ne_eq, not_true_eq_false, if_false, (active_iff _).mpr active, if_true]
  rfl

end faultin

/-! ## The rail's sources -/

/-- The mask of the rail sources that differ. -/
theorem railMask_eq (a b : RailMonitor) :
    railMask a b = sourceMask false false false false false (a.lowActive != b.lowActive) (a.highActive != b.highActive)
      false := by
  unfold railMask
  cases a.lowActive <;> cases b.lowActive <;> cases a.highActive <;> cases b.highActive <;> rfl

/-- A source change of the rail by which of its two sources changed. -/
def railChange (low high : Bool) (t : State) : State :=
  match low, high with
  | false, false => t
  | true, false => t.sourceChange 0x20
  | false, true => t.sourceChange 0x40
  | true, true => t.sourceChange 0x60

theorem setRailMonitor_eq (m : RailMonitor) {low high : Bool} (lows : (s.rail.lowActive != m.lowActive) = low)
    (highs : (s.rail.highActive != m.highActive) = high) :
    s.setRailMonitor m = railChange low high { s with rail := m } := by
  have mask : railMask s.rail m = sourceMask false false false false false low high false := by
    rw [railMask_eq, lows, highs]
  unfold State.setRailMonitor
  rw [mask]
  cases low <;> cases high <;> rfl

/-! ## SET_RAIL -/

section rail

variable {a : RailFields}

/-- The monitor a SET_RAIL leaves. -/
def railConfigured (a : RailFields) (s : State) : RailMonitor :=
  { enable := a.enable, low := a.low, high := a.high, depth := a.depth, lastSample := s.rail.lastSample
    lowRun := 0, highRun := 0, lowActive := false, highActive := false
    nextSample := if a.enable then s.now + 100 else 0 }

theorem ownSetRail_wrongMode (mode : s.mode ≠ .idle) : ownSetRail a s = refuse s .wrongMode := if_pos mode

theorem ownSetRail_badField (mode : s.mode = .idle) (order : a.high ≤ a.low) : ownSetRail a s = refuse s .badField :=
  (if_neg (not_not.mpr mode)).trans (if_pos order)

theorem ownSetRail_accepted (mode : s.mode = .idle) (order : a.low < a.high) {low high : Bool}
    (lows : s.rail.lowActive = low) (highs : s.rail.highActive = high) :
    ownSetRail a s = { state := railChange low high { s with rail := railConfigured a s }, body := .code .ok } := by
  have written := setRailMonitor_eq (s := s) (railConfigured a s) (low := low) (high := high)
    (by simp [railConfigured, lows]) (by simp [railConfigured, highs])
  refine (if_neg (not_not.mpr mode)).trans ((if_neg (Nat.not_le.mpr order)).trans ?_)
  exact congrArg (fun t => (⟨t, .code .ok, .nothing⟩ : Answer)) written

end rail

/-- Settles O45: each order by the mode, its fields and the sources it finds active. -/
theorem sensorsSet : Obligations.SensorsSet := by
  refine ⟨fun seq body s a taken decoded => ?_, fun seq body s a taken decoded => ?_⟩
  · have answered {x : Answer} (h : ownSetFaultin a s = x) :
        exec (.setFaultin seq body) s = .next (x.state.answer ⟨seq, 0x60, body⟩ x.body x.bound) :=
      order_answered taken decoded h
    intro f s1
    have written : faultinSet a s = s1 := by
      simp only [faultinSet, s1]
      cases a.activeLevel <;> rfl
    refine ⟨fun mode => answered (ownSetFaultin_wrongMode mode), fun mode inactive => ?_, fun mode active => ?_⟩
    · rw [answered (ownSetFaultin_inactive mode inactive), written]
    · rw [answered (ownSetFaultin_active mode active), written]
  · have answered {x : Answer} (h : ownSetRail a s = x) :
        exec (.setRail seq body) s = .next (x.state.answer ⟨seq, 0x61, body⟩ x.body x.bound) :=
      order_answered taken decoded h
    refine ⟨fun mode => answered (ownSetRail_wrongMode mode), fun mode order => answered (ownSetRail_badField mode order),
      fun mode order low high => ?_, fun mode order low high => ?_, fun mode order low high => ?_,
      fun mode order low high => ?_⟩
    all_goals
      rw [answered (ownSetRail_accepted mode order low high)]
      rfl

/-! ## Samples of a fault input -/

section sample

variable {i : InputId} {level : Level}

/-- The pin alone. -/
def faultPin (i : InputId) (level : Level) (s : State) : State :=
  { s with pins := { s.pins with faults := wr s.pins.faults i level } }

/-- A sampled input, with the time of its next sample. -/
def sampled (f g : FaultIn) : FaultIn := { g with nextSample := f.nextSample + BitVec.ofNat 32 f.period }

theorem faultSample_early (early : due s.now (s.faultIn i).nextSample = false) :
    s.faultSample i level = faultPin i level s := by
  simp only [State.faultSample, early, Bool.false_eq_true, if_false]
  rfl

variable (came : due s.now (s.faultIn i).nextSample = true) {g : FaultIn} (taken : (s.faultIn i).sample level = g)
include came taken

theorem faultSample_same (same : g.active = (s.faultIn i).active) :
    s.faultSample i level = (faultPin i level s).setFaultIn i (sampled (s.faultIn i) g) := by
  subst taken
  exact (if_pos came).trans (if_pos same)

theorem faultSample_flips (differs : g.active ≠ (s.faultIn i).active) :
    s.faultSample i level =
      ((faultPin i level s).setFaultIn i (sampled (s.faultIn i) g)).sourceChange (BitVec.ofNat 8 (2 ^ i.val)) := by
  subst taken
  exact (if_pos came).trans (if_neg differs)

end sample

section filter

variable {f : FaultIn} {level : Level}

theorem sample_agrees (same : level = f.filtered) : f.sample level = { f with run := 0 } := if_pos same

theorem sample_counts (differs : level ≠ f.filtered) (below : f.run + 1 < f.depth) :
    f.sample level = { f with run := f.run + 1 } := (if_neg differs).trans (if_pos below)

theorem sample_flips (differs : level ≠ f.filtered) (full : f.depth ≤ f.run + 1) :
    f.sample level = { f with filtered := level, run := 0 } :=
  (if_neg differs).trans (if_neg (Nat.not_lt.mpr full))

/-- Of two levels, one is the active one. -/
theorem level_flips {a b : Level} (differs : a ≠ b) (c : Level) : decide (a = c) ≠ decide (b = c) := by
  cases a <;> cases b <;> cases c <;> simp_all

theorem active_flips (differs : level ≠ f.filtered) : FaultIn.active { f with filtered := level, run := 0 } ≠ f.active :=
  level_flips differs f.activeLevel

end filter

/-! ## Samples of the rail -/

theorem clampRail_eq (v : Int) : clampRail v = if v < 0 then 0 else if 600 < v then 600 else v.toNat := by
  unfold clampRail
  split
  · omega
  · split <;> omega

/-- One rail source at a sample: it flips where the sample adds and the run reaches the depth. -/
theorem railSource_eq (active : Bool) (run depth : Nat) (adds : Bool) :
    railSource active run depth adds =
      (active ^^ (adds && decide (depth ≤ run + 1)),
        if adds && !(adds && decide (depth ≤ run + 1)) then run + 1 else 0) := by
  unfold railSource
  cases adds with
  | false => simp
  | true => by_cases full : depth ≤ run + 1 <;> simp [full]

section railSample

variable {v : Int}

/-- The pin alone. -/
def railPin (v : Int) (s : State) : State := { s with pins := { s.pins with rail := v } }

theorem railSample_idle (h : s.rail.enable = false ∨ due s.now s.rail.nextSample = false) :
    s.railSample v = railPin v s := by
  refine if_neg ?_
  rintro ⟨enabled, came⟩
  rcases h with h | h
  · exact absurd (h.symm.trans enabled) (by simp)
  · exact absurd (h.symm.trans came) (by simp)

theorem bne_xor_self (a b : Bool) : (a != (a ^^ b)) = b := by cases a <;> cases b <;> rfl

theorem railSample_takes (enabled : s.rail.enable = true) (came : due s.now s.rail.nextSample = true) {m : RailMonitor}
    {low high : Bool}
    (taken : { s.rail.sample (clampRail v) with nextSample := s.rail.nextSample + 100 } = m)
    (lows : m.lowActive = (s.rail.lowActive ^^ low)) (highs : m.highActive = (s.rail.highActive ^^ high)) :
    s.railSample v = railChange low high { railPin v s with rail := m } := by
  have written := setRailMonitor_eq (s := railPin v s) m (low := low) (high := high)
    (by rw [lows]; exact bne_xor_self ..) (by rw [highs]; exact bne_xor_self ..)
  subst taken
  exact (if_pos ⟨enabled, came⟩).trans written

end railSample

/-- Settles O46: a sample by whether it is due, and what the filter or the monitor makes of it. -/
theorem sensorsSampled : Obligations.SensorsSampled := by
  refine ⟨fun s i level running => ?_, fun s v running => ?_⟩
  · have taken : exec (.faultSample i level) s = .next (s.faultSample i level) :=
      event_taken (f := (·.faultSample i level)) running
    refine ⟨fun early => ?_, fun came same => ?_, fun came differs below => ?_, fun came differs full => ?_⟩
    · rw [taken, faultSample_early early]
      rfl
    · rw [taken, faultSample_same came (sample_agrees same) rfl]
      rfl
    · rw [taken, faultSample_same came (sample_counts differs below) rfl]
      rfl
    · rw [taken, faultSample_flips came (sample_flips differs full) (active_flips differs)]
      rfl
  · intro m x s1 lowAdds highAdds lowFlips highFlips s2
    have taken : exec (.railSample v) s = .next (s.railSample v) := event_taken (f := (·.railSample v)) running
    have monitor : { s.rail.sample (clampRail v) with nextSample := s.rail.nextSample + 100 } = s2.rail := by
      simp only [RailMonitor.sample, clampRail_eq, railSource_eq]
      rfl
    have sample (enabled : s.rail.enable = true) (came : due s.now s.rail.nextSample = true) :
        s.railSample v = railChange lowFlips highFlips s2 := railSample_takes enabled came monitor rfl rfl
    refine ⟨fun h => ?_, fun enabled came low high => ?_, fun enabled came low high => ?_,
      fun enabled came low high => ?_, fun enabled came low high => ?_⟩
    · rw [taken, railSample_idle h]
      rfl
    all_goals
      rw [taken, sample enabled came, low, high]
      rfl

end Sys2Proof.Laws.Sensors
end

section
/-! SUPPORT. The trip groups: their condition, the moves of one group, source changes, trip starts, and the trip
orders. -/

namespace Sys2Proof.Laws.Groups

open Sys2Proof Sys2Proof.Machine Sys2Proof.Laws.Drive Sys2Proof.Laws.Invariants Sys2Proof.Laws.Reads
open Sys2Proof.Laws.Trips Sys2Proof.Laws.Modes Sys2Proof.Laws.Shots Sys2Proof.Laws.Refusals

variable {s : State} {g : GroupId}

/-! ## A group's condition -/

theorem groupMembers_eq (s : State) (g : GroupId) :
    s.groupMembers g = (List.finRange 16).filter fun o => (s.profile o).groups.getLsbD g.val := by
  rw [State.groupMembers, allOutputs_eq]
  rfl

/-- A group is clear when no configured source is active and its host-trip flag is clear. -/
theorem groupClear_eq (s : State) (g : GroupId) :
    s.groupClear g = (decide ((s.group g).sources &&& s.sharedSources = 0) && !(s.group g).hostTrip) := by
  unfold State.groupClear State.activeWatched State.activeConfigured
  cases (s.group g).hostTrip with
  | false => simp
  | true =>
    have host (x : Byte) : x ||| 0x80 ≠ 0 := fun h => by
      have bit := congrArg (fun b : Byte => b.getLsbD 7) h
      simp at bit
    simp only [if_true, host, decide_false, Bool.not_true, Bool.and_false]

theorem startRestore_runs (delay : (s.group g).restoreDelay ≠ 0) :
    s.startRestore g =
      s.setGroup g { s.group g with
        state := .releasing
        restoreTimer := some (s.now + BitVec.ofNat 32 ((s.group g).restoreDelay * 1000)) } := if_neg delay

theorem startRestore_at_once (delay : (s.group g).restoreDelay = 0) : s.startRestore g = s.releaseGroup g .restored :=
  if_pos delay

section eval

theorem evalGroup_normal (state : (s.group g).state = .normal) (clear : s.groupClear g = true) :
    s.evalGroup g = s := by
  simp only [State.evalGroup, state, clear, if_true]

theorem evalGroup_trips (state : (s.group g).state = .normal) (clear : s.groupClear g = false) :
    s.evalGroup g = s.tripStart g := by
  simp only [State.evalGroup, state, clear, Bool.false_eq_true, if_false]

theorem evalGroup_tripped (state : (s.group g).state = .tripped)
    (h : s.groupClear g = false ∨ (s.group g).releaseMode = .manual) : s.evalGroup g = s := by
  have no : ¬ ((s.group g).releaseMode = .auto ∧ s.groupClear g = true) := by
    rintro ⟨auto, clear⟩
    rcases h with h | h
    · exact absurd (h.symm.trans clear) (by simp)
    · exact absurd (h.symm.trans auto) (by simp)
  simp only [State.evalGroup, state, no, if_false]

theorem evalGroup_restores (state : (s.group g).state = .tripped) (clear : s.groupClear g = true)
    (auto : (s.group g).releaseMode = .auto) : s.evalGroup g = s.startRestore g := by
  simp only [State.evalGroup, state, clear, auto, and_self, if_true]

theorem evalGroup_releasing (state : (s.group g).state = .releasing) (clear : s.groupClear g = true) :
    s.evalGroup g = s := by
  simp only [State.evalGroup, state, clear, if_true]

theorem evalGroup_back (state : (s.group g).state = .releasing) (clear : s.groupClear g = false) :
    s.evalGroup g = s.setGroup g { s.group g with state := .tripped, restoreTimer := none } := by
  simp only [State.evalGroup, state, clear, Bool.false_eq_true, if_false]
  rfl

end eval

/-! ## Source changes -/

/-- An evaluation leaves what every group watches. -/
theorem evalGroup_sources (s : State) (g k : GroupId) : ((s.evalGroup g).group k).sources = (s.group k).sources := by
  obtain ⟨state, timer, moved⟩ := evalGroup_moved s g
  by_cases same : k = g
  · rw [same, moved.group]
  · rw [moved.others same]

theorem allGroups_eq : allGroups = List.finRange 4 := by decide

/-- A source change reaches the groups that watched one of its sources at its beginning. -/
theorem sourceChange_eq (s : State) (mask : Byte) :
    s.sourceChange mask =
      ((List.finRange 4).filter fun g => decide ((s.group g).sources &&& mask ≠ 0)).foldl State.evalGroup s := by
  have fold (l : List GroupId) (t : State) (same : ∀ g, (t.group g).sources = (s.group g).sources) :
      l.foldl (fun t g => if (t.group g).sources &&& mask = 0 then t else t.evalGroup g) t =
        (l.filter fun g => decide ((s.group g).sources &&& mask ≠ 0)).foldl State.evalGroup t := by
    induction l generalizing t with
    | nil => rfl
    | cons g l ih =>
      rw [List.foldl_cons, same]
      by_cases apart : (s.group g).sources &&& mask = 0
      · rw [if_pos apart, List.filter_cons_of_neg (by simp [apart]), ih t same]
      · rw [if_neg apart, List.filter_cons_of_pos (by exact decide_eq_true apart), List.foldl_cons]
        exact ih _ fun k => (evalGroup_sources t g k).trans (same k)
  rw [State.sourceChange, allGroups_eq]
  exact fold _ s fun _ => rfl

theorem sourceChange_unwatched {mask : Byte} (h : ∀ k, (s.group k).sources &&& mask = 0) : s.sourceChange mask = s := by
  rw [sourceChange_eq, List.filter_eq_nil_iff.mpr fun g _ => by simp [h g]]
  rfl

theorem sharedSources_input (s : State) (i : InputId) :
    s.sharedSources.getLsbD i.val = true ↔ (s.faultIn i).filtered = (s.faultIn i).activeLevel := by
  rw [← Sensors.active_iff, State.sharedSources, sourceMask_bit _ _ _ _ _ _ _ _ ⟨i.val, by omega⟩]
  fin_cases i <;> rfl

theorem releaseGroup_eq (s : State) (g : GroupId) (how : ReleaseHow) :
    s.releaseGroup g how =
      ((s.setGroup g { s.group g with state := .normal, restoreTimer := none }).post
        (.groupReleased g how s.now)).reportAll
          ((List.finRange 16).filter fun o => (s.profile o).groups.getLsbD g.val) := by
  rw [State.releaseGroup, groupMembers_eq]

/-- Settles O47: one group by its state and its condition, the groups a change reaches, and the restore timer. -/
theorem groupMovesByTable : Obligations.GroupMovesByTable := by
  refine ⟨fun s g => ?_, sourceChange_eq, fun s => ⟨sharedSources_input s, ?_, ?_, ?_, ?_⟩, fun s g running => ?_⟩
  · intro x clear
    have isClear : s.groupClear g = clear := groupClear_eq s g
    refine ⟨isClear, fun state h => evalGroup_normal state (isClear.trans h),
      fun state h => evalGroup_trips state (isClear.trans h), fun state h => evalGroup_tripped state (h.imp_left isClear.trans),
      fun state h auto delay => ?_, fun state h auto delay => ?_, fun state h => evalGroup_releasing state (isClear.trans h),
      fun state h => evalGroup_back state (isClear.trans h), fun mask => sourceChange_unwatched⟩
    · rw [evalGroup_restores state (isClear.trans h) auto, startRestore_runs delay]
    · rw [evalGroup_restores state (isClear.trans h) auto, startRestore_at_once delay]
  · exact sourceMask_bit _ _ _ _ _ _ _ _ 4
  · exact sourceMask_bit _ _ _ _ _ _ _ _ 5
  · exact sourceMask_bit _ _ _ _ _ _ _ _ 6
  · exact sourceMask_bit _ _ _ _ _ _ _ _ 7
  · have taken : exec (.restoreTimerExpiry g) s = .next (s.restoreExpiry g) :=
      event_taken (f := (·.restoreExpiry g)) running
    refine ⟨fun came state => ?_, fun h => ?_⟩
    · have released : s.restoreExpiry g = s.releaseGroup g .restored := if_pos ⟨came, state⟩
      rw [taken, released, releaseGroup_eq]
    · have stays : s.restoreExpiry g = s := if_neg fun ⟨came, state⟩ =>
        h.elim (fun early => absurd (early.symm.trans came) (by simp)) (· state)
      rw [taken, stays]

/-! ## Trip starts -/

section trip

/-- The members of a tripping group have taken their report. -/
def tripReported (s : State) (g : GroupId) : State :=
  (s.setGroup g { s.group g with state := .tripped, restoreTimer := none }).reportAll
    ((List.finRange 16).filter fun o => (s.profile o).groups.getLsbD g.val)

theorem tripStart_keeps (policy : (s.group g).policy = .keep) :
    s.tripStart g = (tripReported s g).post (.groupTripped g (s.activeWatched g) 0 s.now) := by
  have keeps : (s.group g).policy ≠ .purge := by simp [policy]
  simp only [State.tripStart, keeps, if_false, groupMembers_eq, tripReported]

theorem tripStart_purges (policy : (s.group g).policy = .purge) :
    s.tripStart g =
      ((tripReported s g).purgeQueues (s.groupMembers g)).2.post
        (.groupTripped g (s.activeWatched g) ((tripReported s g).purgeQueues (s.groupMembers g)).1 s.now) := by
  simp only [State.tripStart, policy, if_true, groupMembers_eq, tripReported]

theorem mem_members (s : State) (g : GroupId) (o : Output) :
    o ∈ s.groupMembers g ↔ (s.profile o).groups.getLsbD g.val = true := by
  rw [groupMembers_eq]
  simp

theorem members_nodup (s : State) (g : GroupId) : (s.groupMembers g).Nodup := by
  rw [groupMembers_eq]
  exact (List.nodup_finRange 16).filter _

/-- A member of a group that is not NORMAL is under inhibit. -/
theorem inhibitCondition_of_group {t : State} {o : Output} (member : (t.profile o).groups.getLsbD g.val = true)
    (held : (t.group g).state ≠ .normal) : t.inhibitCondition o = true := by
  have group : t.heldByGroup o = true :=
    List.any_eq_true.mpr ⟨g, Sent.mem_allGroups g, by simpa [profileNames, held] using member⟩
  simp only [State.inhibitCondition, group, Bool.or_true]

end trip

/-- Settles O48: the trip start by the queue policy, and what it leaves of the group and its members. -/
theorem tripStartTaken : Obligations.TripStartTaken := by
  refine fun s g => ⟨fun policy => tripStart_keeps policy, fun policy => ?_, fun right normal => ?_⟩
  · have count := purgeQueues_count (s.groupMembers g) (members_nodup s g) (tripReported s g)
    refine ⟨((tripReported s g).purgeQueues (s.groupMembers g)).2, ?_, ?_, fun o member => ?_, fun o other => ?_⟩
    · rw [tripStart_purges policy, count, groupMembers_eq]
      rfl
    · rw [purgeQueues_frame]
      rfl
    · rw [purgeQueues_queue, if_pos ((mem_members s g o).mpr member)]
    · rw [purgeQueues_queue, if_neg (mt (mem_members s g o).mp (by rw [other]; exact Bool.false_ne_true))]
      rfl
  · have moved := tripStart_moved s g
    have drive := ((Upholds.tripStart g).drive right).1
    have outside := moved.calm.outside
    have profiles := outside_profiles outside
    have mode := outside_mode outside
    have tracker := outside_tracker outside
    refine ⟨moved.group, fun k ne => moved.others ne, drive, fun o member => ?_, mode, tracker, profiles, ?_⟩
    · obtain ⟨-, -, inhibited⟩ := drive
      refine (inhibited o).mpr (inhibitCondition_of_group (g := g) ?_ ?_)
      · have profile := profile_of_profiles profiles o
        rw [profile]
        exact member
      · rw [moved.group]
        simp
    · have frame := congrArg State.pins (tripStart_inners s g).frame
      exact frame

/-! ## TRIP -/

section tripOrder

theorem groupMaskOf_low {m : Byte} (low : m.toNat < 16) : groupMaskOf m = some (m.extractLsb' 0 4) := by
  have upper : m.extractLsb' 4 4 = 0 := by
    apply BitVec.eq_of_toNat_eq
    rw [BitVec.extractLsb'_toNat, Nat.shiftRight_eq_div_pow]
    change m.toNat / 16 % 16 = 0
    omega
  simp only [groupMaskOf, upper, if_true]

theorem decodeTrip_low {m : Byte} (low : m.toNat < 16) : decodeTrip [m] = .ok (m.extractLsb' 0 4) := by
  simp only [decodeTrip, groupMaskOf_low low, fieldOr]

theorem extract_bit (m : Byte) (g : GroupId) : (m.extractLsb' 0 4).getLsbD g.val = m.getLsbD g.val := by
  simp

/-- One group of a TRIP: it takes the change where the order names it and its flag was clear. -/
def tripOne (m : Byte) (u : State) (g : GroupId) : State :=
  if m.getLsbD g.val = true ∧ (u.group g).hostTrip = false then
    State.evalGroup (u.setGroup g { u.group g with hostTrip := true }) g
  else u

theorem tripOne_eq (m : Byte) (u : State) (g : GroupId) :
    (if (m.extractLsb' 0 4).getLsbD g.val then u.hostTrip g else u) = tripOne m u g := by
  rw [extract_bit]
  unfold tripOne State.hostTrip
  cases m.getLsbD g.val <;> cases (u.group g).hostTrip <;> rfl

theorem ownTrip_eq (m : Byte) (s : State) {t : State}
    (tripped : tripOne m (tripOne m (tripOne m (tripOne m s 0) 1) 2) 3 = t) :
    ownTrip (m.extractLsb' 0 4) s =
      { state := t
        body := .trip [(t.group 0).state, (t.group 1).state, (t.group 2).state, (t.group 3).state] } := by
  simp only [ownTrip, allGroups, List.foldl_cons, List.foldl_nil, tripOne_eq, tripped, List.map_cons, List.map_nil]

end tripOrder

/-! ## RELEASE -/

section release

theorem ownRelease_notTripped (state : (s.group g).state = .normal) : ownRelease g s = refuse s .notTripped :=
  if_pos state

variable (state : (s.group g).state ≠ .normal)
include state

theorem ownRelease_active (manual : (s.group g).releaseMode = .manual)
    (active : (s.group g).sources &&& s.sharedSources ≠ 0) :
    ownRelease g s = { state := s, body := .sourcesActive ((s.group g).sources &&& s.sharedSources) } :=
  (if_neg state).trans (if_pos ⟨manual, active⟩)

/-- An accepted RELEASE, by what it makes of the group. -/
theorem ownRelease_accepted {t : State}
    (free : ¬ ((s.group g).releaseMode = .manual ∧ (s.group g).sources &&& s.sharedSources ≠ 0))
    (released : s.releaseOrder g = t) : ownRelease g s = { state := t, body := .groupState (t.group g).state } := by
  subst released
  exact (if_neg state).trans (if_neg free)

omit state in
theorem releaseOrder_manual (manual : (s.group g).releaseMode = .manual) :
    s.releaseOrder g = (s.setGroup g { s.group g with hostTrip := false }).releaseGroup g .order := by
  simp only [State.releaseOrder, manual]

omit state in
theorem releaseOrder_unset (auto : (s.group g).releaseMode = .auto) (unset : (s.group g).hostTrip = false) :
    s.releaseOrder g = s := by
  have kept : s.setGroup g { s.group g with hostTrip := false } = s := by
    rw [← unset]
    exact State.setGroup_back s g
  have taken : s.releaseOrder g = s.setGroup g { s.group g with hostTrip := false } := by
    simp only [State.releaseOrder, auto, unset, Bool.false_eq_true, if_false]
  rw [taken, kept]

omit state in
theorem releaseOrder_set (auto : (s.group g).releaseMode = .auto) (set : (s.group g).hostTrip = true) :
    s.releaseOrder g = (s.setGroup g { s.group g with hostTrip := false }).evalGroup g := by
  simp only [State.releaseOrder, auto, set, if_true]

end release

/-- Settles O49: TRIP group by group, RELEASE by the group's state and its release mode. -/
theorem hostTripsAndReleases : Obligations.HostTripsAndReleases := by
  refine ⟨fun seq m s taken low => ?_, fun seq b s g taken named => ?_, releaseGroup_eq⟩
  · intro f trip t
    have same : trip = tripOne m := rfl
    have tripped : tripOne m (tripOne m (tripOne m (tripOne m s 0) 1) 2) 3 = t := by
      rw [← same]
    clear_value t
    exact order_answered (kind := 0x63) (owner := ownTrip) taken (decodeTrip_low low) (ownTrip_eq m s tripped)
  · have decoded : decodeGroup [b] = .ok g := by
      simp only [decodeGroup, groupOf_eq_some.mpr named.symm, fieldOr]
    have answered {x : Answer} (h : ownRelease g s = x) :
        exec (.release seq [b]) s = .next (x.state.answer ⟨seq, 0x64, [b]⟩ x.body x.bound) :=
      order_answered taken decoded h
    refine ⟨fun state => answered (ownRelease_notTripped state),
      fun state manual active => answered (ownRelease_active state manual active), fun state manual clear => ?_,
      fun state auto unset => ?_, fun state auto set => ?_⟩
    · have moved := releaseGroup_moved (s.setGroup g { s.group g with hostTrip := false }) g .order
      have normal := congrArg TripGroup.state moved.group
      rw [answered (ownRelease_accepted state (fun h => h.2 clear) (releaseOrder_manual manual))]
      dsimp only
      rw [normal]
    · exact answered (ownRelease_accepted state (by simp [auto]) (releaseOrder_unset auto unset))
    · exact answered (ownRelease_accepted state (by simp [auto]) (releaseOrder_set auto set))

/-! ## SET_TGROUP -/

section review

variable {t : State}

theorem reviewGroup_normal (state : (s.group g).state = .normal) (clear : s.groupClear g = true) :
    s.reviewGroup g = s := by
  simp only [State.reviewGroup, state, clear]

theorem reviewGroup_trips (state : (s.group g).state = .normal) (clear : s.groupClear g = false) :
    s.reviewGroup g = s.tripStart g := by
  simp only [State.reviewGroup, state, clear]

theorem reviewGroup_restores (state : (s.group g).state ≠ .normal) (clear : s.groupClear g = true)
    (auto : (s.group g).releaseMode = .auto) : s.reviewGroup g = s.startRestore g := by
  cases stands : (s.group g).state with
  | normal => exact absurd stands state
  | tripped => simp only [State.reviewGroup, stands, clear, auto]
  | releasing => simp only [State.reviewGroup, stands, clear, auto]

variable (held : s.groupClear g = false ∨ (s.group g).releaseMode = .manual)
include held

theorem reviewGroup_tripped (state : (s.group g).state = .tripped) : s.reviewGroup g = s := by
  rcases held with clear | manual
  · simp only [State.reviewGroup, state, clear]
  · cases clear : s.groupClear g <;> simp only [State.reviewGroup, state, clear, manual]

theorem reviewGroup_back (state : (s.group g).state = .releasing) :
    s.reviewGroup g = s.backToTripped g := by
  rcases held with clear | manual
  · simp only [State.reviewGroup, state, clear]
  · cases clear : s.groupClear g <;> simp only [State.reviewGroup, state, clear, manual]

end review

section setTgroup

variable {a : TgroupFields}

/-- The group's record as SET_TGROUP writes it. -/
def tgroupRecord (a : TgroupFields) (s : State) : TripGroup :=
  ⟨a.sources, a.releaseMode, a.restoreDelay, a.policy, (s.group a.group).state, (s.group a.group).hostTrip,
    (s.group a.group).restoreTimer⟩

/-- The state once SET_TGROUP has written its record. -/
def tgroupSet (a : TgroupFields) (s : State) : State := s.setGroup a.group (tgroupRecord a s)

theorem tgroupSet_group (a : TgroupFields) (s : State) : (tgroupSet a s).group a.group = tgroupRecord a s :=
  State.setGroup_group_self ..

theorem ownSetTgroup_wrongMode (mode : s.mode ≠ .idle) : ownSetTgroup a s = refuse s .wrongMode := if_pos mode

theorem ownSetTgroup_reviewed (mode : s.mode = .idle) {t : State} {st : GroupState}
    (reviewed : (tgroupSet a s).reviewGroup a.group = t) (state : (t.group a.group).state = st) :
    ownSetTgroup a s = { state := t, body := .groupState st } := by
  subst reviewed state
  exact if_neg (not_not.mpr mode)

end setTgroup

/-- Settles O50: the record written, and the group evaluated at its new configuration. -/
theorem tripGroupSet : Obligations.TripGroupSet := by
  refine fun seq body s a taken decoded => ⟨fun mode => ?_, fun mode => ?_⟩
  · exact order_answered (kind := 0x62) (owner := ownSetTgroup) taken decoded (ownSetTgroup_wrongMode mode)
  have answered {t : State} {st : GroupState} (reviewed : (tgroupSet a s).reviewGroup a.group = t)
      (state : (t.group a.group).state = st) :
      exec (.setTgroup seq body) s = .next (t.answer ⟨seq, 0x62, body⟩ (.groupState st) .nothing) :=
    order_answered (kind := 0x62) (owner := ownSetTgroup) taken decoded (ownSetTgroup_reviewed mode reviewed state)
  have group := tgroupSet_group a s
  have state {st : GroupState} (h : (s.group a.group).state = st) : ((tgroupSet a s).group a.group).state = st :=
    (congrArg TripGroup.state group).trans h
  have other (h : (s.group a.group).state ≠ .normal) : ((tgroupSet a s).group a.group).state ≠ .normal := by
    rw [group]
    exact h
  have auto {m : ReleaseMode} (h : a.releaseMode = m) : ((tgroupSet a s).group a.group).releaseMode = m :=
    (congrArg TripGroup.releaseMode group).trans h
  have delay : ((tgroupSet a s).group a.group).restoreDelay = a.restoreDelay := congrArg TripGroup.restoreDelay group
  have isClear := groupClear_eq (tgroupSet a s) a.group
  rw [group] at isClear
  refine ⟨fun normal clear => ?_, fun normal clear => ?_, fun tripped held => ?_, fun held clear isAuto runs => ?_,
    fun held clear isAuto none => ?_, fun releasing held => ?_⟩
  · exact answered (reviewGroup_normal (state normal) (isClear.trans clear)) (state normal)
  · refine answered (reviewGroup_trips (state normal) (isClear.trans clear)) ?_
    rw [(tripStart_moved ..).group]
  · exact answered (reviewGroup_tripped (held.imp isClear.trans auto) (state tripped)) (state tripped)
  · refine answered ((reviewGroup_restores (other held) (isClear.trans clear) (auto isAuto)).trans ?_) ?_
    · rw [startRestore_runs (by rw [delay]; exact runs), group]
      exact State.setGroup_setGroup ..
    · rw [State.setGroup_group_self]
  · refine answered ((reviewGroup_restores (other held) (isClear.trans clear) (auto isAuto)).trans
      (startRestore_at_once (delay.trans none))) ?_
    rw [(releaseGroup_moved ..).group]
  · refine answered ((reviewGroup_back (held.imp isClear.trans auto) (state releasing)).trans ?_) ?_
    · rw [State.backToTripped, group]
      exact State.setGroup_setGroup ..
    · rw [State.setGroup_group_self]

end Sys2Proof.Laws.Groups
end
